-- ==== Sys2Proof/Word.lean ====
section
/-! DEFINITION. Word: the two values that travel on wires, a Signal and a Bus (spec/10_state.md R10, R11;
spec/00_scope.md R5, R8). This hardware has no bytes and no machine word other than the bus (spec/20_memory.md R23). -/

namespace Sys2Proof

/-- A Signal: one wire, `High` or `Low`, no third value (R10, R182; spec/92_eei_decisions.md D19). -/
inductive Signal where
  | low
  | high
deriving DecidableEq, Repr

/-- R8: `High` is the bit 1 and `Low` the bit 0. The only bridge from signals to numbers
(spec/93_implementation_defined.md U1). -/
def Signal.bit : Signal → Nat
  | .low => 0
  | .high => 1

/-- R8 read backwards: the bit 1 (true) is `High`. -/
def Signal.ofBool : Bool → Signal
  | false => .low
  | true => .high

/-- The bus width `N`: an integer `N >= 1`, fixed for a cell instance; `N = 0` is excluded (R5, D1).
The bound is carried by the value, so that a bus of width 0 cannot be built (R181). -/
structure Width where
  n : Nat
  pos : 0 < n
deriving DecidableEq, Repr

/-- `Bus<N>`: N parallel wires, listed from index 0, the most significant (R9, R11). The width is part of
the type, so that a mismatched connection cannot be written (R25, D11). -/
structure Bus (N : Width) where
  wires : List Signal
  width_eq : wires.length = N.n
deriving DecidableEq, Repr

end Sys2Proof
end

