-- ==== Sys2Proof/Machine/Net.lean ====
section
/-! DEFINITION. Net: netlists of NAND gates (spec/00_scope.md R6: NAND is the only primitive). Each cell of Machine/ is
such a netlist, and its function is what the netlist evaluates to; the NAND counts of spec/70_reset_and_hazards.md R195 are
counts over the same netlist. A netlist is written for wires of any type `W`, so that it can use a wire in no other way than
to connect it. -/

namespace Sys2Proof.Machine

/-- A netlist over wires of type `W` with outputs of type `α`. -/
inductive Net (W α : Type) where
  /-- no further gate: these are the outputs -/
  | done (out : α)
  /-- a constant tie-off, which is no gate (spec/30_encoding.md R32) -/
  | tie (v : Signal) (rest : W → Net W α)
  /-- one NAND gate on two wires; `rest` is the netlist that has its output wire too -/
  | nand (a b : W) (rest : W → Net W α)

/-- The outputs of the first netlist are inputs of the second. -/
def Net.bind {W α β : Type} : Net W α → (α → Net W β) → Net W β
  | .done out, next => next out
  | .tie v rest, next => .tie v fun w => (rest w).bind next
  | .nand a b rest, next => .nand a b fun w => (rest w).bind next

/-- R40: `Low` only when both inputs are `High`. The only gate with no structure. -/
def nandGate : Signal → Signal → Signal
  | .high, .high => .low
  | _, _ => .high

/-- What the outputs carry: every gate evaluated by R40. -/
def Net.run {α : Type} : Net Signal α → α
  | .done out => out
  | .tie v rest => (rest v).run
  | .nand a b rest => (rest (nandGate a b)).run

/-- How many NAND gates are evaluated (R195: every written `nand` is counted). -/
def Net.nands {α : Type} : Net Signal α → Nat
  | .done _ => 0
  | .tie v rest => (rest v).nands
  | .nand a b rest => (rest (nandGate a b)).nands + 1

@[simp] theorem Net.run_done {α : Type} (out : α) : (Net.done out : Net Signal α).run = out := rfl

@[simp] theorem Net.run_tie {α : Type} (v : Signal) (rest : Signal → Net Signal α) :
    (Net.tie v rest).run = (rest v).run := rfl

/-- A netlist after another one evaluates to what it evaluates to on the outputs of the first. -/
@[simp] theorem Net.run_bind {α β : Type} (net : Net Signal α) (next : α → Net Signal β) :
    (net.bind next).run = (next net.run).run := by
  induction net with
  | done out => rfl
  | tie v rest ih => exact ih v
  | nand a b rest ih => exact ih _

/-- The primitive (R40). -/
def nandNet {W : Type} (a b : W) : Net W W := .nand a b .done

/-- A one-input netlist at every wire independently, in order (R50). -/
def mapNet {W : Type} (g : W → Net W W) : List W → Net W (List W)
  | [] => .done []
  | a :: rest => (g a).bind fun out => (mapNet g rest).bind fun outs => .done (out :: outs)

/-- A two-input netlist at every index independently, in order (R50). -/
def zipNet {W : Type} (g : W → W → Net W W) : List W → List W → Net W (List W)
  | a :: as, b :: bs => (g a b).bind fun out => (zipNet g as bs).bind fun outs => .done (out :: outs)
  | _, _ => .done []

/-- A left fold: the accumulator and each wire in index order (R55, R56). -/
def foldNet {W : Type} (g : W → W → Net W W) : W → List W → Net W W
  | acc, [] => .done acc
  | acc, a :: rest => (g acc a).bind fun acc => foldNet g acc rest

theorem mapNet_run (g : Signal → Net Signal Signal) (w : List Signal) :
    (mapNet g w).run = w.map fun a => (g a).run := by
  induction w with
  | nil => rfl
  | cons a rest ih => simp [mapNet, ih]

theorem zipNet_run (g : Signal → Signal → Net Signal Signal) (u v : List Signal) :
    (zipNet g u v).run = List.zipWith (fun a b => (g a b).run) u v := by
  induction u generalizing v with
  | nil => rfl
  | cons a as ih =>
    cases v with
    | nil => rfl
    | cons b bs => simp [zipNet, ih]

theorem foldNet_run (g : Signal → Signal → Net Signal Signal) (acc : Signal) (w : List Signal) :
    (foldNet g acc w).run = w.foldl (fun acc a => (g acc a).run) acc := by
  induction w generalizing acc with
  | nil => rfl
  | cons a rest ih => simp [foldNet, ih]

end Sys2Proof.Machine
end

