-- ==== Sys2Proof/Config.lean ====
section
/-! DEFINITION. Config: the implementation parameters of the library (spec/00_scope.md R5). There are exactly two;
there is no free value, because no cell leaves a value open (spec/60_exceptions.md R180). -/

namespace Sys2Proof

/-- The implementation parameters of R5. They stand in State as plain data, so that every statement about
every state is a statement about every value of the parameters (notes/assumptions/2.md). -/
structure Config where
  /-- `N`, the width of every bus port of a width-generic cell (R5, D1). -/
  width : Width
  /-- `DMUX_SEL1_LOW`: whether `sel1` is the low-order bit of the output index of `dmux_4_way` and
  `dmux_8_way` (R5, R59, D5). -/
  dmuxSel1Low : Bool
deriving DecidableEq, Repr

/-- The width of the codec and of the reference ALU (R5, R171). -/
def width16 : Width := ⟨16, by decide⟩

/-- The reference values that R5's table gives: `N = 16`, `DMUX_SEL1_LOW = true`. -/
def Config.reference : Config := ⟨width16, true⟩

end Sys2Proof
end

