-- ==== Sys2Proof/Syntax.lean ====
section
/-! DEFINITION. Syntax: what can be evaluated. One constructor of Instr for each row of spec/opcode_table.json:
the 64 ALU control words (spec/30_encoding.md R30, R33) and the 22 cells (spec/00_scope.md R2). The operands are
input ports, not fields of an encoding (R31), so no constructor has an argument. -/

namespace Sys2Proof

/-- The 22 cells of R2. A cell is chosen by instantiation, not by a bit pattern (R38). -/
inductive Cell where
  | nand
  | not
  | and
  | or
  | xor
  | mux
  | dmux
  | notN
  | andN
  | orN
  | muxN
  | orMWay
  | andMWay
  | mux4WayN
  | mux8WayN
  | dmux4Way
  | dmux8Way
  | halfAdder
  | fullAdder
  | nAdder
  | nIncrementer
  | alu
deriving DecidableEq, Repr

/-- How the host names the evaluation it asks for (R170): an ALU evaluation under a control word given as
signals in the order `zx nx zy ny f no` (R30), or an evaluation of a placed cell (R36, R38). A word is a list,
so that a word of another length than six can be offered and refused. -/
inductive Selector where
  | word (signals : List Signal)
  | placed (cell : Cell)
deriving DecidableEq, Repr

/-- One evaluation of one cell, the unit of execution (R7, D2): the rows of spec/opcode_table.json in order. -/
inductive Instr where
  /-- R100: `x&y`. -/
  | alu000000
  /-- R101: `!(x&y)`. -/
  | alu000001
  /-- R102: `x+y`. -/
  | alu000010
  /-- R103: `-x-y-1`. -/
  | alu000011
  /-- R104: `x&!y`. -/
  | alu000100
  /-- R105: `!x|y`. -/
  | alu000101
  /-- R106: `x-y-1`. -/
  | alu000110
  /-- R107: `y-x`. -/
  | alu000111
  /-- R108: `0`. -/
  | alu001000
  /-- R109: `-1`. -/
  | alu001001
  /-- R110: `x`. -/
  | alu001010
  /-- R111: `!x`. -/
  | alu001011
  /-- R112: `x`. -/
  | alu001100
  /-- R113: `!x`. -/
  | alu001101
  /-- R114: `x-1`. -/
  | alu001110
  /-- R115: `-x`. -/
  | alu001111
  /-- R116: `!x&y`. -/
  | alu010000
  /-- R117: `x|!y`. -/
  | alu010001
  /-- R118: `y-x-1`. -/
  | alu010010
  /-- R119: `x-y`. -/
  | alu010011
  /-- R120: `!(x|y)`. -/
  | alu010100
  /-- R121: `x|y`. -/
  | alu010101
  /-- R122: `-x-y-2`. -/
  | alu010110
  /-- R123: `x+y+1`. -/
  | alu010111
  /-- R124: `0`. -/
  | alu011000
  /-- R125: `-1`. -/
  | alu011001
  /-- R126: `!x`. -/
  | alu011010
  /-- R127: `x`. -/
  | alu011011
  /-- R128: `!x`. -/
  | alu011100
  /-- R129: `x`. -/
  | alu011101
  /-- R130: `-x-2`. -/
  | alu011110
  /-- R131: `x+1`. -/
  | alu011111
  /-- R132: `0`. -/
  | alu100000
  /-- R133: `-1`. -/
  | alu100001
  /-- R134: `y`. -/
  | alu100010
  /-- R135: `!y`. -/
  | alu100011
  /-- R136: `0`. -/
  | alu100100
  /-- R137: `-1`. -/
  | alu100101
  /-- R138: `!y`. -/
  | alu100110
  /-- R139: `y`. -/
  | alu100111
  /-- R140: `0`. -/
  | alu101000
  /-- R141: `-1`. -/
  | alu101001
  /-- R142: `0`. -/
  | alu101010
  /-- R143: `-1`. -/
  | alu101011
  /-- R144: `0`. -/
  | alu101100
  /-- R145: `-1`. -/
  | alu101101
  /-- R146: `-1`. -/
  | alu101110
  /-- R147: `0`. -/
  | alu101111
  /-- R148: `y`. -/
  | alu110000
  /-- R149: `!y`. -/
  | alu110001
  /-- R150: `y-1`. -/
  | alu110010
  /-- R151: `-y`. -/
  | alu110011
  /-- R152: `!y`. -/
  | alu110100
  /-- R153: `y`. -/
  | alu110101
  /-- R154: `-y-2`. -/
  | alu110110
  /-- R155: `y+1`. -/
  | alu110111
  /-- R156: `0`. -/
  | alu111000
  /-- R157: `-1`. -/
  | alu111001
  /-- R158: `-1`. -/
  | alu111010
  /-- R159: `0`. -/
  | alu111011
  /-- R160: `-1`. -/
  | alu111100
  /-- R161: `0`. -/
  | alu111101
  /-- R162: `-2`. -/
  | alu111110
  /-- R163: `1`. -/
  | alu111111
  /-- R40: the cell `nand`. -/
  | nand
  /-- R41: the cell `not`. -/
  | not
  /-- R42: the cell `and`. -/
  | and
  /-- R43: the cell `or`. -/
  | or
  /-- R44: the cell `xor`. -/
  | xor
  /-- R45: the cell `mux`. -/
  | mux
  /-- R46: the cell `dmux`. -/
  | dmux
  /-- R51: the cell `not_n`. -/
  | notN
  /-- R52: the cell `and_n`. -/
  | andN
  /-- R53: the cell `or_n`. -/
  | orN
  /-- R54: the cell `mux_n`. -/
  | muxN
  /-- R55: the cell `or_m_way`. -/
  | orMWay
  /-- R56: the cell `and_m_way`. -/
  | andMWay
  /-- R57: the cell `mux_4_way_n`. -/
  | mux4WayN
  /-- R58: the cell `mux_8_way_n`. -/
  | mux8WayN
  /-- R59: the cell `dmux_4_way`. -/
  | dmux4Way
  /-- R60: the cell `dmux_8_way`. -/
  | dmux8Way
  /-- R65: the cell `half_adder`. -/
  | halfAdder
  /-- R66: the cell `full_adder`. -/
  | fullAdder
  /-- R67: the cell `n_adder`. -/
  | nAdder
  /-- R68: the cell `n_incrementer`. -/
  | nIncrementer
  /-- R83: the cell `alu`. -/
  | alu
deriving DecidableEq, Repr

end Sys2Proof
end

