-- ==== Sys2Proof/WellFormed.lean ====
section
/-! DEFINITION. WellFormed: what must hold of the terms the host builds before an evaluation exists
(spec/20_memory.md R25, spec/60_exceptions.md R181, spec/30_encoding.md R30). -/

namespace Sys2Proof

/-- R5, D1: a width is at least 1. -/
def wellFormedWidth (n : Nat) : Bool := decide (1 ≤ n)

/-- R25: the wires offered to a port of width `n` are exactly `n`. -/
def wellFormedBus (n : Nat) (wires : List Signal) : Bool := wellFormedWidth n && wires.length == n

/-- R30: a control word has exactly six signals; a placed cell needs no check. -/
def Selector.wellFormed : Selector → Bool
  | .word signals => signals.length == 6
  | .placed _ => true

/-- R34: no control word is reserved or illegal, and no row has an operand field in which something ill-formed
could stand: every evaluation is well-formed. -/
def Instr.wellFormed (_ : Instr) : Bool := true

end Sys2Proof
end

