-- ==== Sys2Proof/Decode.lean ====
section
/-! DEFINITION. Decode: from the signals of a control word, or the name of a placed cell, to an evaluation, and back
(spec/30_encoding.md R30, R33, R34, R38). The decoder of control words is built from the `ALU6` rows alone (R38). -/

namespace Sys2Proof

/-- `bit_(n-1) … bit_0` of a number as signals, most significant first (R9: `b[i] = bit_(N-1-i)`). -/
def signalsOfNumber : Nat → Nat → List Signal
  | 0, _ => []
  | n + 1, v => Signal.ofBool (v.testBit n) :: signalsOfNumber n v

/-- The number a list of signals writes, most significant first: element `i` of `N` has weight `2^(N-1-i)`
(R9); on six signals it is `cw = 32*zx + 16*nx + 8*zy + 4*ny + 2*f + no` (R30). -/
def numberOfSignals : List Signal → Nat
  | [] => 0
  | s :: rest => s.bit * 2 ^ rest.length + numberOfSignals rest

/-- Why a selector is no evaluation. -/
inductive DecodeError where
  /-- The word offered has this many signals; a control word has always exactly six (R30, R35). -/
  | notSixSignals (length : Nat)
deriving DecidableEq, Repr

/-- The row of a control word (R33, R34: all 64 words are legal; the row of word `cw` has rule `R(100+cw)`). -/
def decodeControl (zx nx zy ny f no : Signal) : Instr :=
  match zx, nx, zy, ny, f, no with
  | .low, .low, .low, .low, .low, .low => .alu000000
  | .low, .low, .low, .low, .low, .high => .alu000001
  | .low, .low, .low, .low, .high, .low => .alu000010
  | .low, .low, .low, .low, .high, .high => .alu000011
  | .low, .low, .low, .high, .low, .low => .alu000100
  | .low, .low, .low, .high, .low, .high => .alu000101
  | .low, .low, .low, .high, .high, .low => .alu000110
  | .low, .low, .low, .high, .high, .high => .alu000111
  | .low, .low, .high, .low, .low, .low => .alu001000
  | .low, .low, .high, .low, .low, .high => .alu001001
  | .low, .low, .high, .low, .high, .low => .alu001010
  | .low, .low, .high, .low, .high, .high => .alu001011
  | .low, .low, .high, .high, .low, .low => .alu001100
  | .low, .low, .high, .high, .low, .high => .alu001101
  | .low, .low, .high, .high, .high, .low => .alu001110
  | .low, .low, .high, .high, .high, .high => .alu001111
  | .low, .high, .low, .low, .low, .low => .alu010000
  | .low, .high, .low, .low, .low, .high => .alu010001
  | .low, .high, .low, .low, .high, .low => .alu010010
  | .low, .high, .low, .low, .high, .high => .alu010011
  | .low, .high, .low, .high, .low, .low => .alu010100
  | .low, .high, .low, .high, .low, .high => .alu010101
  | .low, .high, .low, .high, .high, .low => .alu010110
  | .low, .high, .low, .high, .high, .high => .alu010111
  | .low, .high, .high, .low, .low, .low => .alu011000
  | .low, .high, .high, .low, .low, .high => .alu011001
  | .low, .high, .high, .low, .high, .low => .alu011010
  | .low, .high, .high, .low, .high, .high => .alu011011
  | .low, .high, .high, .high, .low, .low => .alu011100
  | .low, .high, .high, .high, .low, .high => .alu011101
  | .low, .high, .high, .high, .high, .low => .alu011110
  | .low, .high, .high, .high, .high, .high => .alu011111
  | .high, .low, .low, .low, .low, .low => .alu100000
  | .high, .low, .low, .low, .low, .high => .alu100001
  | .high, .low, .low, .low, .high, .low => .alu100010
  | .high, .low, .low, .low, .high, .high => .alu100011
  | .high, .low, .low, .high, .low, .low => .alu100100
  | .high, .low, .low, .high, .low, .high => .alu100101
  | .high, .low, .low, .high, .high, .low => .alu100110
  | .high, .low, .low, .high, .high, .high => .alu100111
  | .high, .low, .high, .low, .low, .low => .alu101000
  | .high, .low, .high, .low, .low, .high => .alu101001
  | .high, .low, .high, .low, .high, .low => .alu101010
  | .high, .low, .high, .low, .high, .high => .alu101011
  | .high, .low, .high, .high, .low, .low => .alu101100
  | .high, .low, .high, .high, .low, .high => .alu101101
  | .high, .low, .high, .high, .high, .low => .alu101110
  | .high, .low, .high, .high, .high, .high => .alu101111
  | .high, .high, .low, .low, .low, .low => .alu110000
  | .high, .high, .low, .low, .low, .high => .alu110001
  | .high, .high, .low, .low, .high, .low => .alu110010
  | .high, .high, .low, .low, .high, .high => .alu110011
  | .high, .high, .low, .high, .low, .low => .alu110100
  | .high, .high, .low, .high, .low, .high => .alu110101
  | .high, .high, .low, .high, .high, .low => .alu110110
  | .high, .high, .low, .high, .high, .high => .alu110111
  | .high, .high, .high, .low, .low, .low => .alu111000
  | .high, .high, .high, .low, .low, .high => .alu111001
  | .high, .high, .high, .low, .high, .low => .alu111010
  | .high, .high, .high, .low, .high, .high => .alu111011
  | .high, .high, .high, .high, .low, .low => .alu111100
  | .high, .high, .high, .high, .low, .high => .alu111101
  | .high, .high, .high, .high, .high, .low => .alu111110
  | .high, .high, .high, .high, .high, .high => .alu111111

/-- The row of a placed cell (R38). -/
def decodeCell : Cell → Instr
  | .nand => .nand
  | .not => .not
  | .and => .and
  | .or => .or
  | .xor => .xor
  | .mux => .mux
  | .dmux => .dmux
  | .notN => .notN
  | .andN => .andN
  | .orN => .orN
  | .muxN => .muxN
  | .orMWay => .orMWay
  | .andMWay => .andMWay
  | .mux4WayN => .mux4WayN
  | .mux8WayN => .mux8WayN
  | .dmux4Way => .dmux4Way
  | .dmux8Way => .dmux8Way
  | .halfAdder => .halfAdder
  | .fullAdder => .fullAdder
  | .nAdder => .nAdder
  | .nIncrementer => .nIncrementer
  | .alu => .alu

/-- The decoder: total, and refusing by name a word that is not six signals long. -/
def decode : Selector → Except DecodeError Instr
  | .word [zx, nx, zy, ny, f, no] => .ok (decodeControl zx nx zy ny f no)
  | .word signals => .error (.notSixSignals signals.length)
  | .placed cell => .ok (decodeCell cell)

/-- The encoder, written from the `encoding` column of the table (R30) and, for a cell, which has no encoding
(R35), the placement of the cell. -/
def encode : Instr → Selector
  | .alu000000 => .word [.low, .low, .low, .low, .low, .low]
  | .alu000001 => .word [.low, .low, .low, .low, .low, .high]
  | .alu000010 => .word [.low, .low, .low, .low, .high, .low]
  | .alu000011 => .word [.low, .low, .low, .low, .high, .high]
  | .alu000100 => .word [.low, .low, .low, .high, .low, .low]
  | .alu000101 => .word [.low, .low, .low, .high, .low, .high]
  | .alu000110 => .word [.low, .low, .low, .high, .high, .low]
  | .alu000111 => .word [.low, .low, .low, .high, .high, .high]
  | .alu001000 => .word [.low, .low, .high, .low, .low, .low]
  | .alu001001 => .word [.low, .low, .high, .low, .low, .high]
  | .alu001010 => .word [.low, .low, .high, .low, .high, .low]
  | .alu001011 => .word [.low, .low, .high, .low, .high, .high]
  | .alu001100 => .word [.low, .low, .high, .high, .low, .low]
  | .alu001101 => .word [.low, .low, .high, .high, .low, .high]
  | .alu001110 => .word [.low, .low, .high, .high, .high, .low]
  | .alu001111 => .word [.low, .low, .high, .high, .high, .high]
  | .alu010000 => .word [.low, .high, .low, .low, .low, .low]
  | .alu010001 => .word [.low, .high, .low, .low, .low, .high]
  | .alu010010 => .word [.low, .high, .low, .low, .high, .low]
  | .alu010011 => .word [.low, .high, .low, .low, .high, .high]
  | .alu010100 => .word [.low, .high, .low, .high, .low, .low]
  | .alu010101 => .word [.low, .high, .low, .high, .low, .high]
  | .alu010110 => .word [.low, .high, .low, .high, .high, .low]
  | .alu010111 => .word [.low, .high, .low, .high, .high, .high]
  | .alu011000 => .word [.low, .high, .high, .low, .low, .low]
  | .alu011001 => .word [.low, .high, .high, .low, .low, .high]
  | .alu011010 => .word [.low, .high, .high, .low, .high, .low]
  | .alu011011 => .word [.low, .high, .high, .low, .high, .high]
  | .alu011100 => .word [.low, .high, .high, .high, .low, .low]
  | .alu011101 => .word [.low, .high, .high, .high, .low, .high]
  | .alu011110 => .word [.low, .high, .high, .high, .high, .low]
  | .alu011111 => .word [.low, .high, .high, .high, .high, .high]
  | .alu100000 => .word [.high, .low, .low, .low, .low, .low]
  | .alu100001 => .word [.high, .low, .low, .low, .low, .high]
  | .alu100010 => .word [.high, .low, .low, .low, .high, .low]
  | .alu100011 => .word [.high, .low, .low, .low, .high, .high]
  | .alu100100 => .word [.high, .low, .low, .high, .low, .low]
  | .alu100101 => .word [.high, .low, .low, .high, .low, .high]
  | .alu100110 => .word [.high, .low, .low, .high, .high, .low]
  | .alu100111 => .word [.high, .low, .low, .high, .high, .high]
  | .alu101000 => .word [.high, .low, .high, .low, .low, .low]
  | .alu101001 => .word [.high, .low, .high, .low, .low, .high]
  | .alu101010 => .word [.high, .low, .high, .low, .high, .low]
  | .alu101011 => .word [.high, .low, .high, .low, .high, .high]
  | .alu101100 => .word [.high, .low, .high, .high, .low, .low]
  | .alu101101 => .word [.high, .low, .high, .high, .low, .high]
  | .alu101110 => .word [.high, .low, .high, .high, .high, .low]
  | .alu101111 => .word [.high, .low, .high, .high, .high, .high]
  | .alu110000 => .word [.high, .high, .low, .low, .low, .low]
  | .alu110001 => .word [.high, .high, .low, .low, .low, .high]
  | .alu110010 => .word [.high, .high, .low, .low, .high, .low]
  | .alu110011 => .word [.high, .high, .low, .low, .high, .high]
  | .alu110100 => .word [.high, .high, .low, .high, .low, .low]
  | .alu110101 => .word [.high, .high, .low, .high, .low, .high]
  | .alu110110 => .word [.high, .high, .low, .high, .high, .low]
  | .alu110111 => .word [.high, .high, .low, .high, .high, .high]
  | .alu111000 => .word [.high, .high, .high, .low, .low, .low]
  | .alu111001 => .word [.high, .high, .high, .low, .low, .high]
  | .alu111010 => .word [.high, .high, .high, .low, .high, .low]
  | .alu111011 => .word [.high, .high, .high, .low, .high, .high]
  | .alu111100 => .word [.high, .high, .high, .high, .low, .low]
  | .alu111101 => .word [.high, .high, .high, .high, .low, .high]
  | .alu111110 => .word [.high, .high, .high, .high, .high, .low]
  | .alu111111 => .word [.high, .high, .high, .high, .high, .high]
  | .nand => .placed .nand
  | .not => .placed .not
  | .and => .placed .and
  | .or => .placed .or
  | .xor => .placed .xor
  | .mux => .placed .mux
  | .dmux => .placed .dmux
  | .notN => .placed .notN
  | .andN => .placed .andN
  | .orN => .placed .orN
  | .muxN => .placed .muxN
  | .orMWay => .placed .orMWay
  | .andMWay => .placed .andMWay
  | .mux4WayN => .placed .mux4WayN
  | .mux8WayN => .placed .mux8WayN
  | .dmux4Way => .placed .dmux4Way
  | .dmux8Way => .placed .dmux8Way
  | .halfAdder => .placed .halfAdder
  | .fullAdder => .placed .fullAdder
  | .nAdder => .placed .nAdder
  | .nIncrementer => .placed .nIncrementer
  | .alu => .placed .alu

/-- The signals that a number of the opcode table stands for, when the table gives the row `nbits` bits in whole
bytes. The control word is the low six bits (R30); the two bits that only fill up the byte are no signals
when they are 0, and with a bit set there the word is longer than six signals. A row that is given fewer than six
bits (a CELL row has no selecting bits, R38) offers only those. -/
def tableSignals (nbits w : Nat) : List Signal :=
  if nbits < 6 then signalsOfNumber nbits w
  else if w < 64 then signalsOfNumber 6 w
  else signalsOfNumber (max nbits 7) w

/-- The evaluation that the decoder reads from a word of the opcode table. -/
def decodeTableWord (nbits w : Nat) : Option Instr :=
  match decode (.word (tableSignals nbits w)) with
  | .ok i => some i
  | .error _ => none

end Sys2Proof
end

