-- ==== Sys2Proof/Machine/Operands.lean ====
section
/-! DEFINITION. Operands: buses as operands. The elementwise forms the lifts use (spec/41_bus_ops.md R50), the constants
wired into cells (spec/30_encoding.md R32), and the three readings of a bus as a number (spec/00_scope.md R9), which are
notation and not cells (D22). -/

namespace Sys2Proof

/-- A single-bit function at every index independently, order-preserving (R50). -/
def Bus.map {N : Width} (g : Signal → Signal) (b : Bus N) : Bus N :=
  ⟨b.wires.map g, by simp [b.width_eq]⟩

/-- A two-input single-bit function at every index independently, order-preserving (R50). -/
def Bus.zipWith {N : Width} (g : Signal → Signal → Signal) (a b : Bus N) : Bus N :=
  ⟨List.zipWith g a.wires b.wires, by simp [a.width_eq, b.width_eq]⟩

/-- The bus with the same signal on every wire: `Low^N` or `High^N`. -/
def Bus.fill (N : Width) (v : Signal) : Bus N := ⟨List.replicate N.n v, by simp⟩

/-- `Low^N` (R32: the ALU's zero stages and the incrementer's second operand). -/
def Bus.allLow (N : Width) : Bus N := Bus.fill N .low

/-- `High^N`. -/
def Bus.allHigh (N : Width) : Bus N := Bus.fill N .high

/-- Element `b[i]`, counted from the most significant end (R9). -/
def Bus.get {N : Width} (b : Bus N) (i : Fin N.n) : Signal :=
  b.wires.get ⟨i.val, by rw [b.width_eq]; exact i.isLt⟩

/-- Element `b[0]`, the sign bit, which exists because `N >= 1` (R9, R82). -/
def Bus.msb {N : Width} (b : Bus N) : Signal := b.get ⟨0, N.pos⟩

/-- `val_N(b)`, the unsigned value (R9). -/
def Bus.val {N : Width} (b : Bus N) : Nat := numberOfSignals b.wires

/-- `sval_N(b) = val_N(b) - 2^N * b[0]`, the two's-complement value (R9). -/
def Bus.sval {N : Width} (b : Bus N) : Int := (b.val : Int) - 2 ^ N.n * (b.msb.bit : Int)

/-- `signalsOfNumber n` writes exactly `n` signals. -/
theorem signalsOfNumber_length (n v : Nat) : (signalsOfNumber n v).length = n := by
  induction n with
  | zero => rfl
  | succ n ih => simp [signalsOfNumber, ih]

/-- `bus_N(v)`: the width-N bus with `val_N(bus_N(v)) = v mod 2^N`, `mod` non-negative (R9). -/
def Bus.ofInt (N : Width) (v : Int) : Bus N :=
  ⟨signalsOfNumber N.n (v % 2 ^ N.n).toNat, signalsOfNumber_length _ _⟩

/-- A bus as a bit vector of its width, in which arithmetic is modulo `2^N` (R84). -/
def Bus.bv {N : Width} (b : Bus N) : BitVec N.n := BitVec.ofNat N.n b.val

/-- The bus of a bit vector. -/
def Bus.ofBV {N : Width} (v : BitVec N.n) : Bus N := Bus.ofInt N v.toNat

end Sys2Proof
end

