-- ==== Sys2Proof/Machine/Ports.lean ====
section
/-! DEFINITION. Ports: the input and output ports of the cells as records of plain data. Port names are those of
spec/30_encoding.md R36 and spec/92_eei_decisions.md D9 (`in` is written `inp`, a word of Lean being in the way;
`carry_in` and `carry_out` are `carryIn` and `carryOut`). -/

namespace Sys2Proof.Machine

/-- The single-signal data inputs and selectors of the cells (R40 to R46, R54, R57 to R60, R65, R66). -/
structure SignalPorts where
  a : Signal
  b : Signal
  carryIn : Signal
  inp : Signal
  sel : Signal
  sel1 : Signal
  sel2 : Signal
  sel3 : Signal
deriving DecidableEq, Repr

/-- The six control inputs of the `alu` cell: six independent signals, not a bus and not a register (R12, R75). -/
structure ControlPorts where
  zx : Signal
  nx : Signal
  zy : Signal
  ny : Signal
  f : Signal
  no : Signal
deriving DecidableEq, Repr

/-- The bus inputs of the width-generic cells (R51 to R58, R67, R68, R75); `f` here is the sixth data input of
`mux_8_way_n`, not the ALU's control signal (D9). -/
structure BusPorts (N : Width) where
  bus : Bus N
  a : Bus N
  b : Bus N
  c : Bus N
  d : Bus N
  e : Bus N
  f : Bus N
  g : Bus N
  h : Bus N
  busA : Bus N
  busB : Bus N
  x : Bus N
  y : Bus N
deriving DecidableEq, Repr

/-- What stands at the input ports. Every bus port has the one width `N` (R25). -/
structure Inputs (N : Width) where
  signal : SignalPorts
  control : ControlPorts
  bus : BusPorts N
deriving DecidableEq, Repr

/-- The outputs of `dmux` (R46). -/
structure DmuxOut where
  outA : Signal
  outB : Signal
deriving DecidableEq, Repr

/-- The outputs of `half_adder` (R65). -/
structure HalfAdderOut where
  sum : Signal
  carry : Signal
deriving DecidableEq, Repr

/-- The outputs of `full_adder` (R66). -/
structure FullAdderOut where
  sum : Signal
  carryOut : Signal
deriving DecidableEq, Repr

/-- The outputs of `dmux_4_way` (R59). -/
structure Dmux4Out where
  o0 : Signal
  o1 : Signal
  o2 : Signal
  o3 : Signal
deriving DecidableEq, Repr

/-- The outputs of `dmux_8_way` (R60). -/
structure Dmux8Out where
  o0 : Signal
  o1 : Signal
  o2 : Signal
  o3 : Signal
  o4 : Signal
  o5 : Signal
  o6 : Signal
  o7 : Signal
deriving DecidableEq, Repr

/-- The outputs of `alu`: the result bus and the two flags, which are outputs and not stored (R17, R75). -/
structure AluOut (N : Width) where
  out : Bus N
  zr : Signal
  ng : Signal
deriving DecidableEq, Repr

/-- All the outputs of one evaluation, by the shape of the cell. An evaluation produces its own cell's outputs whole
and nothing else (R14, R26). -/
inductive Outputs (N : Width) where
  /-- the single `out` of a cell with a Signal output -/
  | signal (out : Signal)
  /-- the single `out` of a cell with a bus output -/
  | bus (out : Bus N)
  | dmux (r : DmuxOut)
  | halfAdder (r : HalfAdderOut)
  | fullAdder (r : FullAdderOut)
  | dmux4 (r : Dmux4Out)
  | dmux8 (r : Dmux8Out)
  | alu (r : AluOut N)
deriving DecidableEq, Repr

/-- The ordered list `[o0, o1, o2, o3]` (R59). -/
def Dmux4Out.toList (r : Dmux4Out) : List Signal := [r.o0, r.o1, r.o2, r.o3]

/-- The ordered list `[o0, …, o7]` (R60). -/
def Dmux8Out.toList (r : Dmux8Out) : List Signal := [r.o0, r.o1, r.o2, r.o3, r.o4, r.o5, r.o6, r.o7]

end Sys2Proof.Machine
end

