-- ==== Sys2Proof/Machine/State.lean ====
section
/-! DEFINITION. State. The hardware itself holds no state at all: no register, no program counter, no memory, no stored
flag, no mode, no reset value (spec/10_state.md R15 to R22; spec/70_reset_and_hazards.md R190). What stands here is the
model's own: the parameters of the placed cells, which evaluation the host asks for, what it drives onto the input ports,
and the outputs of the last evaluation, for the host to read (spec/45_codec.md R170; notes/assumptions/1.md). -/

namespace Sys2Proof.Machine

/-- The faults of the machine: there are none. The set of run-time exception causes is empty (R180), so this type
has no constructor and no evaluation can end in a fault. -/
inductive Fault where
deriving DecidableEq, Repr

/-- The refusals: what is not an evaluation of this hardware. No evaluation of a cell ends in one. -/
inductive Refusal where
  /-- Raised by exec's arm of a row that has no meaning yet. No row is left in that case. Safe: the model stops. -/
  | notModelled (mnemonic : String)
  /-- Raised by the host's operations (Machine/Boundary.lean) when the wires offered to a bus port are not exactly as
  many as its width, when a bus given to the codec is not 16 wide, or when a cell of width 0 is asked for (R25,
  R181, D11). Safe: the spec gives such a connection no meaning. -/
  | widthMismatch
  /-- Raised by step when the host has asked for no evaluation: then there is nothing whose outputs a rule
  defines (R7, R22, R182; notes/assumptions/4.md). Safe: the model stops. -/
  | noEvaluation
  /-- Raised by step when the word offered as a control word has this number of signals instead of six (R30, R35).
  Safe: the spec gives it no meaning. -/
  | notAControlWord (length : Nat)
  /-- Raised by `int_to_bus16` for an integer outside -32768 .. 32767 (R171, D17). Safe: such an integer is no
  input of the codec. -/
  | integerOutOfRange
  /-- Raised by the host's wiring operations when the last evaluation has no output port of the kind to be wired, or
  there was none. Safe: there is no such wire (R10, R14). -/
  | noSuchOutput
deriving DecidableEq, Repr

/-- The state of the model. `outputs` is `none` when no evaluation has been made: there is no output before one
(spec/91_not_in_source.md N9). -/
structure State where
  config : Config
  request : Option Selector
  inputs : Inputs config.width
  outputs : Option (Outputs config.width)
deriving DecidableEq, Repr

/-- The width `N` of the placed cells. -/
abbrev State.width (s : State) : Width := s.config.width

/-- Every input port at `Low`: the model's choice of what stands there before the host drives anything, since the
spec gives the ports no value (DESIGN CHOICE, unsafe: notes/assumptions/3.md). -/
def Inputs.allLow (N : Width) : Inputs N where
  signal := ⟨.low, .low, .low, .low, .low, .low, .low, .low⟩
  control := ⟨.low, .low, .low, .low, .low, .low⟩
  bus :=
    ⟨.allLow N, .allLow N, .allLow N, .allLow N, .allLow N, .allLow N, .allLow N, .allLow N, .allLow N, .allLow N,
      .allLow N, .allLow N, .allLow N⟩

/-- The cells placed with the given parameters, nothing asked for and nothing evaluated. -/
def State.idle (config : Config) : State where
  config := config
  request := none
  inputs := .allLow config.width
  outputs := none

/-- R22, R190: there is no reset and nothing has a reset value. The parameters are at the reference values of R5. -/
def State.reset : State := State.idle Config.reference

end Sys2Proof.Machine
end

