-- ==== Sys2Proof/Machine/Ops.lean ====
section
/-! DEFINITION. Ops: the shared operations of every evaluation: producing outputs, finding which evaluation is asked
for, reading the output ports. Taking an exception and returning from one do not appear: there is no exception, no trap
entry and no trap return (spec/60_exceptions.md R180, R184), and no memory to operate on (spec/20_memory.md R24). -/

namespace Sys2Proof.Machine

/-- The state whose output ports carry `o`. No input port is driven by a cell (R11), no cell writes the control word
(R12), and nothing else is kept (R14). -/
def State.withOutputs (s : State) (o : Outputs s.config.width) : State := { s with outputs := some o }

/-- The end of every evaluation: its outputs, whole, and no other effect (R26). -/
def State.emit (s : State) (o : Outputs s.config.width) : Host.Outcome State Fault Refusal := .next (s.withOutputs o)

/-- The evaluation the host asks for (R170). This hardware fetches nothing (R16, R29): the selector stands in the
state, and a control word is read in the same evaluation as the operands. -/
def State.requested (s : State) : Except Refusal Instr :=
  match s.request with
  | none => .error .noEvaluation
  | some sel =>
    match decode sel with
    | .ok i => .ok i
    | .error (.notSixSignals n) => .error (.notAControlWord n)

/-- The host asks for an evaluation. -/
def State.ask (s : State) (sel : Selector) : State := { s with request := some sel }

/-- The single Signal output, where the last evaluation has one. -/
def Outputs.signal? {N : Width} : Outputs N → Option Signal
  | .signal out => some out
  | _ => none

/-- The port named `out` that is a bus, where the last evaluation has one. -/
def Outputs.bus? {N : Width} : Outputs N → Option (Bus N)
  | .bus out => some out
  | .alu r => some r.out
  | _ => none

/-- The flag `zr`, an output of an ALU evaluation alone (R17, R81). -/
def Outputs.zr? {N : Width} : Outputs N → Option Signal
  | .alu r => some r.zr
  | _ => none

/-- The flag `ng`, an output of an ALU evaluation alone (R17, R82). -/
def Outputs.ng? {N : Width} : Outputs N → Option Signal
  | .alu r => some r.ng
  | _ => none

end Sys2Proof.Machine
end

