-- ==== Sys2Proof/Machine/Gates.lean ====
section
/-! DEFINITION. Gates: the six derived single-bit gates (spec/40_gates.md R41 to R47), each the composition of NAND that
the spec gives it and not a native Boolean operator (R6): a netlist, and the gate is what it evaluates to. -/

namespace Sys2Proof.Machine

/-- R41: `nand(a, a)`. -/
def notNet {W : Type} (a : W) : Net W W := nandNet a a

/-- R42: `nand(nand(a,b), nand(a,b))`. -/
def andNet {W : Type} (a b : W) : Net W W :=
  (nandNet a b).bind fun l => (nandNet a b).bind fun r => nandNet l r

/-- R43: `nand(nand(a,a), nand(b,b))`. -/
def orNet {W : Type} (a b : W) : Net W W :=
  (nandNet a a).bind fun l => (nandNet b b).bind fun r => nandNet l r

/-- R44: `nand(nand(nand(a,b),a), nand(nand(a,b),b))`. -/
def xorNet {W : Type} (a b : W) : Net W W :=
  (nandNet a b).bind fun t => (nandNet t a).bind fun l =>
  (nandNet a b).bind fun u => (nandNet u b).bind fun r => nandNet l r

/-- R45: `nand(nand(a, nand(sel,sel)), nand(b, sel))`: `a` when `sel` is `Low`, `b` when it is `High`. -/
def muxNet {W : Type} (a b sel : W) : Net W W :=
  (nandNet sel sel).bind fun ns => (nandNet a ns).bind fun l => (nandNet b sel).bind fun r => nandNet l r

/-- R46, with the structure of D4: `outA` and `outB`. -/
def dmuxNet {W : Type} (inp sel : W) : Net W (W × W) :=
  (notNet sel).bind fun ns => (andNet inp ns).bind fun outA => (andNet inp sel).bind fun outB => .done (outA, outB)

def notGate (a : Signal) : Signal := (notNet a).run

def andGate (a b : Signal) : Signal := (andNet a b).run

def orGate (a b : Signal) : Signal := (orNet a b).run

def xorGate (a b : Signal) : Signal := (xorNet a b).run

def muxGate (a b sel : Signal) : Signal := (muxNet a b sel).run

def dmuxGate (inp sel : Signal) : DmuxOut :=
  let r := (dmuxNet inp sel).run
  ⟨r.1, r.2⟩

def execNand (s : State) : Host.Outcome State Fault Refusal :=
  s.emit (.signal (nandGate s.inputs.signal.a s.inputs.signal.b))

def execNot (s : State) : Host.Outcome State Fault Refusal :=
  s.emit (.signal (notGate s.inputs.signal.a))

def execAnd (s : State) : Host.Outcome State Fault Refusal :=
  s.emit (.signal (andGate s.inputs.signal.a s.inputs.signal.b))

def execOr (s : State) : Host.Outcome State Fault Refusal :=
  s.emit (.signal (orGate s.inputs.signal.a s.inputs.signal.b))

def execXor (s : State) : Host.Outcome State Fault Refusal :=
  s.emit (.signal (xorGate s.inputs.signal.a s.inputs.signal.b))

def execMux (s : State) : Host.Outcome State Fault Refusal :=
  s.emit (.signal (muxGate s.inputs.signal.a s.inputs.signal.b s.inputs.signal.sel))

def execDmux (s : State) : Host.Outcome State Fault Refusal :=
  s.emit (.dmux (dmuxGate s.inputs.signal.inp s.inputs.signal.sel))

end Sys2Proof.Machine
end

