-- ==== Sys2Proof/Machine/BusOps.lean ====
section
/-! DEFINITION. BusOps: the lifts, the fan-in reducers and the 4-way and 8-way selectors (spec/41_bus_ops.md R50 to
R60), for every width: first the netlists, over the wires of a bus from index 0 on, then what they evaluate to. -/

namespace Sys2Proof.Machine

/-- R51: NOT at every index. -/
def notNNet {W : Type} (bus : List W) : Net W (List W) := mapNet notNet bus

/-- R52: AND at every index. -/
def andNNet {W : Type} (a b : List W) : Net W (List W) := zipNet andNet a b

/-- R53: OR at every index. -/
def orNNet {W : Type} (a b : List W) : Net W (List W) := zipNet orNet a b

/-- R54: one shared selector for the whole bus. -/
def muxNNet {W : Type} (a b : List W) (sel : W) : Net W (List W) := zipNet (fun ai bi => muxNet ai bi sel) a b

/-- R55: a left fold of OR gates in index order, from `Low`. -/
def orMWayNet {W : Type} (bus : List W) : Net W W := .tie .low fun seed => foldNet orNet seed bus

/-- R56: a left fold of AND gates in index order (D8), from `High`. -/
def andMWayNet {W : Type} (bus : List W) : Net W W := .tie .high fun seed => foldNet andNet seed bus

/-- R57: `sel1` within the pairs, then `sel2` between them. -/
def mux4WayNNet {W : Type} (a b c d : List W) (sel1 sel2 : W) : Net W (List W) :=
  (muxNNet a b sel1).bind fun ab => (muxNNet c d sel1).bind fun cd => muxNNet ab cd sel2

/-- R58: the 4-way selector on each half, then `sel3` between the halves. -/
def mux8WayNNet {W : Type} (a b c d e f g h : List W) (sel1 sel2 sel3 : W) : Net W (List W) :=
  (mux4WayNNet a b c d sel1 sel2).bind fun lo => (mux4WayNNet e f g h sel1 sel2).bind fun hi => muxNNet lo hi sel3

/-- R59, D6: the leg of the 4-way DMUX for the selector terms `t1` and `t2`. -/
def dmux4LegNet {W : Type} (inp t1 t2 : W) : Net W W := (andNet inp t1).bind fun u => andNet u t2

/-- R59: the ordered outputs. With `DMUX_SEL1_LOW` the output index is `sel1 + 2*sel2`, without it `2*sel1 + sel2`, which
exchanges `o1` and `o2` (D5). -/
def dmux4WayNet {W : Type} (sel1Low : Bool) (inp sel1 sel2 : W) : Net W (W × W × W × W) :=
  (notNet sel1).bind fun n1 => (notNet sel2).bind fun n2 =>
  (dmux4LegNet inp n1 n2).bind fun none =>
  (dmux4LegNet inp sel1 n2).bind fun only1 =>
  (dmux4LegNet inp n1 sel2).bind fun only2 =>
  (dmux4LegNet inp sel1 sel2).bind fun all =>
  .done (none, if sel1Low then only1 else only2, if sel1Low then only2 else only1, all)

/-- R60, D6: the leg of the 8-way DMUX for the selector terms `t1`, `t2` and `t3`. -/
def dmux8LegNet {W : Type} (inp t1 t2 t3 : W) : Net W W :=
  (andNet inp t1).bind fun u => (andNet u t2).bind fun v => andNet v t3

/-- R60: the ordered outputs. With `DMUX_SEL1_LOW` the output index is `sel1 + 2*sel2 + 4*sel3`, without it
`4*sel1 + 2*sel2 + sel3`, which exchanges `o1` with `o4` and `o3` with `o6` (D5). -/
def dmux8WayNet {W : Type} (sel1Low : Bool) (inp sel1 sel2 sel3 : W) : Net W (W × W × W × W × W × W × W × W) :=
  (notNet sel1).bind fun n1 => (notNet sel2).bind fun n2 => (notNet sel3).bind fun n3 =>
  (dmux8LegNet inp n1 n2 n3).bind fun none =>
  (dmux8LegNet inp sel1 n2 n3).bind fun only1 =>
  (dmux8LegNet inp n1 sel2 n3).bind fun only2 =>
  (dmux8LegNet inp sel1 sel2 n3).bind fun not3 =>
  (dmux8LegNet inp n1 n2 sel3).bind fun only3 =>
  (dmux8LegNet inp sel1 n2 sel3).bind fun not2 =>
  (dmux8LegNet inp n1 sel2 sel3).bind fun not1 =>
  (dmux8LegNet inp sel1 sel2 sel3).bind fun all =>
  .done (none, if sel1Low then only1 else only3, only2, if sel1Low then not3 else not1,
    if sel1Low then only3 else only1, not2, if sel1Low then not1 else not3, all)

@[simp] theorem notNNet_length (bus : List Signal) : (notNNet bus).run.length = bus.length := by
  simp [notNNet, mapNet_run]

@[simp] theorem andNNet_length (a b : List Signal) : (andNNet a b).run.length = min a.length b.length := by
  simp [andNNet, zipNet_run]

@[simp] theorem orNNet_length (a b : List Signal) : (orNNet a b).run.length = min a.length b.length := by
  simp [orNNet, zipNet_run]

@[simp] theorem muxNNet_length (a b : List Signal) (sel : Signal) :
    (muxNNet a b sel).run.length = min a.length b.length := by
  simp [muxNNet, zipNet_run]

def notN {N : Width} (bus : Bus N) : Bus N := ⟨(notNNet bus.wires).run, by simp [bus.width_eq]⟩

def andN {N : Width} (a b : Bus N) : Bus N := ⟨(andNNet a.wires b.wires).run, by simp [a.width_eq, b.width_eq]⟩

def orN {N : Width} (a b : Bus N) : Bus N := ⟨(orNNet a.wires b.wires).run, by simp [a.width_eq, b.width_eq]⟩

def muxN {N : Width} (a b : Bus N) (sel : Signal) : Bus N :=
  ⟨(muxNNet a.wires b.wires sel).run, by simp [a.width_eq, b.width_eq]⟩

def orMWay {N : Width} (bus : Bus N) : Signal := (orMWayNet bus.wires).run

def andMWay {N : Width} (bus : Bus N) : Signal := (andMWayNet bus.wires).run

def mux4WayN {N : Width} (a b c d : Bus N) (sel1 sel2 : Signal) : Bus N :=
  ⟨(mux4WayNNet a.wires b.wires c.wires d.wires sel1 sel2).run,
    by simp [mux4WayNNet, a.width_eq, b.width_eq, c.width_eq, d.width_eq]⟩

def mux8WayN {N : Width} (a b c d e f g h : Bus N) (sel1 sel2 sel3 : Signal) : Bus N :=
  ⟨(mux8WayNNet a.wires b.wires c.wires d.wires e.wires f.wires g.wires h.wires sel1 sel2 sel3).run,
    by simp [mux8WayNNet, mux4WayNNet, a.width_eq, b.width_eq, c.width_eq, d.width_eq, e.width_eq, f.width_eq,
      g.width_eq, h.width_eq]⟩

def dmux4Way (sel1Low : Bool) (inp sel1 sel2 : Signal) : Dmux4Out :=
  let (o0, o1, o2, o3) := (dmux4WayNet sel1Low inp sel1 sel2).run
  ⟨o0, o1, o2, o3⟩

def dmux8Way (sel1Low : Bool) (inp sel1 sel2 sel3 : Signal) : Dmux8Out :=
  let (o0, o1, o2, o3, o4, o5, o6, o7) := (dmux8WayNet sel1Low inp sel1 sel2 sel3).run
  ⟨o0, o1, o2, o3, o4, o5, o6, o7⟩

def execNotN (s : State) : Host.Outcome State Fault Refusal :=
  s.emit (.bus (notN s.inputs.bus.bus))

def execAndN (s : State) : Host.Outcome State Fault Refusal :=
  s.emit (.bus (andN s.inputs.bus.a s.inputs.bus.b))

def execOrN (s : State) : Host.Outcome State Fault Refusal :=
  s.emit (.bus (orN s.inputs.bus.a s.inputs.bus.b))

def execMuxN (s : State) : Host.Outcome State Fault Refusal :=
  s.emit (.bus (muxN s.inputs.bus.a s.inputs.bus.b s.inputs.signal.sel))

def execOrMWay (s : State) : Host.Outcome State Fault Refusal :=
  s.emit (.signal (orMWay s.inputs.bus.bus))

def execAndMWay (s : State) : Host.Outcome State Fault Refusal :=
  s.emit (.signal (andMWay s.inputs.bus.bus))

def execMux4WayN (s : State) : Host.Outcome State Fault Refusal :=
  s.emit (.bus (mux4WayN s.inputs.bus.a s.inputs.bus.b s.inputs.bus.c s.inputs.bus.d
    s.inputs.signal.sel1 s.inputs.signal.sel2))

def execMux8WayN (s : State) : Host.Outcome State Fault Refusal :=
  s.emit (.bus (mux8WayN s.inputs.bus.a s.inputs.bus.b s.inputs.bus.c s.inputs.bus.d
    s.inputs.bus.e s.inputs.bus.f s.inputs.bus.g s.inputs.bus.h
    s.inputs.signal.sel1 s.inputs.signal.sel2 s.inputs.signal.sel3))

def execDmux4Way (s : State) : Host.Outcome State Fault Refusal :=
  s.emit (.dmux4 (dmux4Way s.config.dmuxSel1Low s.inputs.signal.inp s.inputs.signal.sel1 s.inputs.signal.sel2))

def execDmux8Way (s : State) : Host.Outcome State Fault Refusal :=
  s.emit (.dmux8 (dmux8Way s.config.dmuxSel1Low s.inputs.signal.inp
    s.inputs.signal.sel1 s.inputs.signal.sel2 s.inputs.signal.sel3))

end Sys2Proof.Machine
end

