-- ==== Sys2Proof/Machine/Arithmetic.lean ====
section
/-! DEFINITION. Arithmetic: half adder, full adder, ripple-carry adder and incrementer (spec/42_arithmetic.md R65 to
R70), for every width: first the netlists, then what they evaluate to. -/

namespace Sys2Proof.Machine

/-- R65: `sum` and `carry`. -/
def halfAdderNet {W : Type} (a b : W) : Net W (W × W) :=
  (xorNet a b).bind fun sum => (andNet a b).bind fun carry => .done (sum, carry)

/-- R66: two chained half adders, the carries joined by OR (D7); `sum` and `carry_out`. -/
def fullAdderNet {W : Type} (a b carryIn : W) : Net W (W × W) :=
  (halfAdderNet a b).bind fun (s1, c1) => (halfAdderNet s1 carryIn).bind fun (sum, c2) =>
  (orNet c1 c2).bind fun carryOut => .done (sum, carryOut)

/-- The sum wires of a ripple and the carry out of its most significant position. -/
structure Ripple (W : Type) where
  sum : List W
  carry : W
deriving DecidableEq, Repr

/-- The chain of full adders of R67 and R68, over the operand pairs from index 0 on: the carry into an index is the
carry out of the next higher one, and `c_N` enters at the highest index, so it runs toward index 0 (R70). -/
def rippleNet {W : Type} (cN : W) : List (W × W) → Net W (Ripple W)
  | [] => .done ⟨[], cN⟩
  | (a, b) :: rest =>
    (rippleNet cN rest).bind fun below => (fullAdderNet a b below.carry).bind fun (sum, carryOut) =>
    .done ⟨sum :: below.sum, carryOut⟩

/-- R67: carry-in `Low`; the carry out of index 0 is left unconnected (R13). -/
def nAdderNet {W : Type} (busA busB : List W) : Net W (List W) :=
  .tie .low fun cN => (rippleNet cN (busA.zip busB)).bind fun r => .done r.sum

/-- R68: the second operand all `Low`, the initial carry `High` (D21). -/
def nIncrementerNet {W : Type} (bus : List W) : Net W (List W) :=
  .tie .high fun cN => .tie .low fun low =>
  (rippleNet cN (bus.zip (List.replicate bus.length low))).bind fun r => .done r.sum

def halfAdder (a b : Signal) : HalfAdderOut :=
  let r := (halfAdderNet a b).run
  ⟨r.1, r.2⟩

def fullAdder (a b carryIn : Signal) : FullAdderOut :=
  let r := (fullAdderNet a b carryIn).run
  ⟨r.1, r.2⟩

/-- What the chain evaluates to. -/
def ripple (cN : Signal) (pairs : List (Signal × Signal)) : Ripple Signal := (rippleNet cN pairs).run

/-- A ripple has one sum wire for each pair. -/
@[simp] theorem rippleNet_sum_length (cN : Signal) (pairs : List (Signal × Signal)) :
    (rippleNet cN pairs).run.sum.length = pairs.length := by
  induction pairs with
  | nil => rfl
  | cons p rest ih => simp [rippleNet, ih]

theorem ripple_sum_length (cN : Signal) (pairs : List (Signal × Signal)) :
    (ripple cN pairs).sum.length = pairs.length := rippleNet_sum_length cN pairs

@[simp] theorem nAdderNet_length (a b : List Signal) : (nAdderNet a b).run.length = min a.length b.length := by
  simp [nAdderNet]

@[simp] theorem nIncrementerNet_length (bus : List Signal) : (nIncrementerNet bus).run.length = bus.length := by
  simp [nIncrementerNet]

def nAdder {N : Width} (busA busB : Bus N) : Bus N :=
  ⟨(nAdderNet busA.wires busB.wires).run, by simp [busA.width_eq, busB.width_eq]⟩

def nIncrementer {N : Width} (bus : Bus N) : Bus N := ⟨(nIncrementerNet bus.wires).run, by simp [bus.width_eq]⟩

def execHalfAdder (s : State) : Host.Outcome State Fault Refusal :=
  s.emit (.halfAdder (halfAdder s.inputs.signal.a s.inputs.signal.b))

def execFullAdder (s : State) : Host.Outcome State Fault Refusal :=
  s.emit (.fullAdder (fullAdder s.inputs.signal.a s.inputs.signal.b s.inputs.signal.carryIn))

def execNAdder (s : State) : Host.Outcome State Fault Refusal :=
  s.emit (.bus (nAdder s.inputs.bus.busA s.inputs.bus.busB))

def execNIncrementer (s : State) : Host.Outcome State Fault Refusal :=
  s.emit (.bus (nIncrementer s.inputs.bus.bus))

end Sys2Proof.Machine
end

