-- ==== Sys2Proof/Machine/Flags.lean ====
section
/-! DEFINITION. Flags: the two status flags of the ALU, computed from the final result alone (spec/43_alu.md R81, R82,
R85). No other cell produces a flag (spec/10_state.md R17). -/

namespace Sys2Proof.Machine

/-- R81: `zr = not(or_m_way(out))`. -/
def zeroFlagNet {W : Type} (out : List W) : Net W W := (orMWayNet out).bind notNet

/-- R82: `ng = out[0]`, a wire and no gate. -/
def negativeFlag {N : Width} (out : Bus N) : Signal := out.msb

end Sys2Proof.Machine
end

