-- ==== Sys2Proof/Machine/Alu.lean ====
section
/-! DEFINITION. Alu: the `alu` cell, stage by stage (spec/43_alu.md R75 to R86). -/

namespace Sys2Proof.Machine

/-- Every internal bus and every output of one ALU evaluation, under R83's names. They are functions of the
evaluation's inputs and are kept nowhere (R21); a model may expose them (R189). -/
structure AluWires (N : Width) where
  x1 : Bus N
  x2 : Bus N
  y1 : Bus N
  y2 : Bus N
  g : Bus N
  s : Bus N
  o1 : Bus N
  out : Bus N
  zr : Signal
  ng : Signal
deriving DecidableEq, Repr

/-- R76, R78: the zero stage of an operand. -/
def zeroStageNet {W : Type} (v : List W) (z : W) : Net W (List W) :=
  .tie .low fun low => muxNNet v (List.replicate v.length low) z

/-- R77, R78, R80: the negate stage of an operand or of the result. -/
def negateStageNet {W : Type} (v : List W) (n : W) : Net W (List W) :=
  (notNNet v).bind fun nv => muxNNet v nv n

/-- The gates of the ALU: its internal buses, its result and its zero flag, as lists of wires. -/
structure AluLines (W : Type) where
  x1 : List W
  x2 : List W
  y1 : List W
  y2 : List W
  g : List W
  s : List W
  o1 : List W
  out : List W
  zr : W
deriving DecidableEq, Repr

/-- R83: the stages in their fixed order, each reading the previous stage's result (R75, D15). -/
def aluNet {W : Type} (x y : List W) (zx nx zy ny f no : W) : Net W (AluLines W) :=
  (zeroStageNet x zx).bind fun x1 =>
  (negateStageNet x1 nx).bind fun x2 =>
  (zeroStageNet y zy).bind fun y1 =>
  (negateStageNet y1 ny).bind fun y2 =>
  (andNNet x2 y2).bind fun g =>
  (nAdderNet x2 y2).bind fun s =>
  (muxNNet g s f).bind fun o1 =>
  (negateStageNet o1 no).bind fun out =>
  (zeroFlagNet out).bind fun zr =>
  .done ⟨x1, x2, y1, y2, g, s, o1, out, zr⟩

@[simp] theorem zeroStageNet_length (v : List Signal) (z : Signal) : (zeroStageNet v z).run.length = v.length := by
  simp [zeroStageNet]

@[simp] theorem negateStageNet_length (v : List Signal) (n : Signal) :
    (negateStageNet v n).run.length = v.length := by
  simp [negateStageNet]

/-- The internal buses and the outputs of an evaluation of the ALU's netlist; `ng` is a wire from `out[0]` (R82). -/
def aluWires {N : Width} (x y : Bus N) (zx nx zy ny f no : Signal) : AluWires N :=
  let r := (aluNet x.wires y.wires zx nx zy ny f no).run
  let out : Bus N := ⟨r.out, by simp [r, aluNet, x.width_eq, y.width_eq]⟩
  { x1 := ⟨r.x1, by simp [r, aluNet, x.width_eq]⟩
    x2 := ⟨r.x2, by simp [r, aluNet, x.width_eq]⟩
    y1 := ⟨r.y1, by simp [r, aluNet, y.width_eq]⟩
    y2 := ⟨r.y2, by simp [r, aluNet, y.width_eq]⟩
    g := ⟨r.g, by simp [r, aluNet, x.width_eq, y.width_eq]⟩
    s := ⟨r.s, by simp [r, aluNet, x.width_eq, y.width_eq]⟩
    o1 := ⟨r.o1, by simp [r, aluNet, x.width_eq, y.width_eq]⟩
    out := out
    zr := r.zr
    ng := negativeFlag out }

/-- R83: `alu(x, y, zx, nx, zy, ny, f, no) -> (out, zr, ng)`. -/
def alu {N : Width} (x y : Bus N) (zx nx zy ny f no : Signal) : AluOut N :=
  let w := aluWires x y zx nx zy ny f no
  ⟨w.out, w.zr, w.ng⟩

/-- An ALU evaluation under a given control word, on the operands at the ports `x` and `y` (R29, R37). -/
def State.evaluateWord (s : State) (zx nx zy ny f no : Signal) : Host.Outcome State Fault Refusal :=
  s.emit (.alu (alu s.inputs.bus.x s.inputs.bus.y zx nx zy ny f no))

/-- The `alu` cell evaluated on what stands at its eight input ports (R75, R83). -/
def execAlu (s : State) : Host.Outcome State Fault Refusal :=
  s.emit (.alu (alu s.inputs.bus.x s.inputs.bus.y s.inputs.control.zx s.inputs.control.nx s.inputs.control.zy
    s.inputs.control.ny s.inputs.control.f s.inputs.control.no))

end Sys2Proof.Machine
end

