-- ==== Sys2Proof/Machine/AluWords.lean ====
section
/-! DEFINITION. AluWords: the 64 control words of the ALU (spec/44_alu_functions.md R100 to R163). Each is an
evaluation of the `alu` cell with the word's six signals on its control inputs (spec/30_encoding.md R37), on the
operands that stand at the ports `x` and `y`. -/

namespace Sys2Proof.Machine

/-- R100: word `000000`, `x&y`. -/
def execAlu000000 (s : State) : Host.Outcome State Fault Refusal :=
  s.evaluateWord .low .low .low .low .low .low

/-- R101: word `000001`, `!(x&y)`. -/
def execAlu000001 (s : State) : Host.Outcome State Fault Refusal :=
  s.evaluateWord .low .low .low .low .low .high

/-- R102: word `000010`, `x+y`. -/
def execAlu000010 (s : State) : Host.Outcome State Fault Refusal :=
  s.evaluateWord .low .low .low .low .high .low

/-- R103: word `000011`, `-x-y-1`. -/
def execAlu000011 (s : State) : Host.Outcome State Fault Refusal :=
  s.evaluateWord .low .low .low .low .high .high

/-- R104: word `000100`, `x&!y`. -/
def execAlu000100 (s : State) : Host.Outcome State Fault Refusal :=
  s.evaluateWord .low .low .low .high .low .low

/-- R105: word `000101`, `!x|y`. -/
def execAlu000101 (s : State) : Host.Outcome State Fault Refusal :=
  s.evaluateWord .low .low .low .high .low .high

/-- R106: word `000110`, `x-y-1`. -/
def execAlu000110 (s : State) : Host.Outcome State Fault Refusal :=
  s.evaluateWord .low .low .low .high .high .low

/-- R107: word `000111`, `y-x`. -/
def execAlu000111 (s : State) : Host.Outcome State Fault Refusal :=
  s.evaluateWord .low .low .low .high .high .high

/-- R108: word `001000`, `0`. -/
def execAlu001000 (s : State) : Host.Outcome State Fault Refusal :=
  s.evaluateWord .low .low .high .low .low .low

/-- R109: word `001001`, `-1`. -/
def execAlu001001 (s : State) : Host.Outcome State Fault Refusal :=
  s.evaluateWord .low .low .high .low .low .high

/-- R110: word `001010`, `x`. -/
def execAlu001010 (s : State) : Host.Outcome State Fault Refusal :=
  s.evaluateWord .low .low .high .low .high .low

/-- R111: word `001011`, `!x`. -/
def execAlu001011 (s : State) : Host.Outcome State Fault Refusal :=
  s.evaluateWord .low .low .high .low .high .high

/-- R112: word `001100`, `x`. -/
def execAlu001100 (s : State) : Host.Outcome State Fault Refusal :=
  s.evaluateWord .low .low .high .high .low .low

/-- R113: word `001101`, `!x`. -/
def execAlu001101 (s : State) : Host.Outcome State Fault Refusal :=
  s.evaluateWord .low .low .high .high .low .high

/-- R114: word `001110`, `x-1`. -/
def execAlu001110 (s : State) : Host.Outcome State Fault Refusal :=
  s.evaluateWord .low .low .high .high .high .low

/-- R115: word `001111`, `-x`. -/
def execAlu001111 (s : State) : Host.Outcome State Fault Refusal :=
  s.evaluateWord .low .low .high .high .high .high

/-- R116: word `010000`, `!x&y`. -/
def execAlu010000 (s : State) : Host.Outcome State Fault Refusal :=
  s.evaluateWord .low .high .low .low .low .low

/-- R117: word `010001`, `x|!y`. -/
def execAlu010001 (s : State) : Host.Outcome State Fault Refusal :=
  s.evaluateWord .low .high .low .low .low .high

/-- R118: word `010010`, `y-x-1`. -/
def execAlu010010 (s : State) : Host.Outcome State Fault Refusal :=
  s.evaluateWord .low .high .low .low .high .low

/-- R119: word `010011`, `x-y`. -/
def execAlu010011 (s : State) : Host.Outcome State Fault Refusal :=
  s.evaluateWord .low .high .low .low .high .high

/-- R120: word `010100`, `!(x|y)`. -/
def execAlu010100 (s : State) : Host.Outcome State Fault Refusal :=
  s.evaluateWord .low .high .low .high .low .low

/-- R121: word `010101`, `x|y`. -/
def execAlu010101 (s : State) : Host.Outcome State Fault Refusal :=
  s.evaluateWord .low .high .low .high .low .high

/-- R122: word `010110`, `-x-y-2`. -/
def execAlu010110 (s : State) : Host.Outcome State Fault Refusal :=
  s.evaluateWord .low .high .low .high .high .low

/-- R123: word `010111`, `x+y+1`. -/
def execAlu010111 (s : State) : Host.Outcome State Fault Refusal :=
  s.evaluateWord .low .high .low .high .high .high

/-- R124: word `011000`, `0`. -/
def execAlu011000 (s : State) : Host.Outcome State Fault Refusal :=
  s.evaluateWord .low .high .high .low .low .low

/-- R125: word `011001`, `-1`. -/
def execAlu011001 (s : State) : Host.Outcome State Fault Refusal :=
  s.evaluateWord .low .high .high .low .low .high

/-- R126: word `011010`, `!x`. -/
def execAlu011010 (s : State) : Host.Outcome State Fault Refusal :=
  s.evaluateWord .low .high .high .low .high .low

/-- R127: word `011011`, `x`. -/
def execAlu011011 (s : State) : Host.Outcome State Fault Refusal :=
  s.evaluateWord .low .high .high .low .high .high

/-- R128: word `011100`, `!x`. -/
def execAlu011100 (s : State) : Host.Outcome State Fault Refusal :=
  s.evaluateWord .low .high .high .high .low .low

/-- R129: word `011101`, `x`. -/
def execAlu011101 (s : State) : Host.Outcome State Fault Refusal :=
  s.evaluateWord .low .high .high .high .low .high

/-- R130: word `011110`, `-x-2`. -/
def execAlu011110 (s : State) : Host.Outcome State Fault Refusal :=
  s.evaluateWord .low .high .high .high .high .low

/-- R131: word `011111`, `x+1`. -/
def execAlu011111 (s : State) : Host.Outcome State Fault Refusal :=
  s.evaluateWord .low .high .high .high .high .high

/-- R132: word `100000`, `0`. -/
def execAlu100000 (s : State) : Host.Outcome State Fault Refusal :=
  s.evaluateWord .high .low .low .low .low .low

/-- R133: word `100001`, `-1`. -/
def execAlu100001 (s : State) : Host.Outcome State Fault Refusal :=
  s.evaluateWord .high .low .low .low .low .high

/-- R134: word `100010`, `y`. -/
def execAlu100010 (s : State) : Host.Outcome State Fault Refusal :=
  s.evaluateWord .high .low .low .low .high .low

/-- R135: word `100011`, `!y`. -/
def execAlu100011 (s : State) : Host.Outcome State Fault Refusal :=
  s.evaluateWord .high .low .low .low .high .high

/-- R136: word `100100`, `0`. -/
def execAlu100100 (s : State) : Host.Outcome State Fault Refusal :=
  s.evaluateWord .high .low .low .high .low .low

/-- R137: word `100101`, `-1`. -/
def execAlu100101 (s : State) : Host.Outcome State Fault Refusal :=
  s.evaluateWord .high .low .low .high .low .high

/-- R138: word `100110`, `!y`. -/
def execAlu100110 (s : State) : Host.Outcome State Fault Refusal :=
  s.evaluateWord .high .low .low .high .high .low

/-- R139: word `100111`, `y`. -/
def execAlu100111 (s : State) : Host.Outcome State Fault Refusal :=
  s.evaluateWord .high .low .low .high .high .high

/-- R140: word `101000`, `0`. -/
def execAlu101000 (s : State) : Host.Outcome State Fault Refusal :=
  s.evaluateWord .high .low .high .low .low .low

/-- R141: word `101001`, `-1`. -/
def execAlu101001 (s : State) : Host.Outcome State Fault Refusal :=
  s.evaluateWord .high .low .high .low .low .high

/-- R142: word `101010`, `0`. -/
def execAlu101010 (s : State) : Host.Outcome State Fault Refusal :=
  s.evaluateWord .high .low .high .low .high .low

/-- R143: word `101011`, `-1`. -/
def execAlu101011 (s : State) : Host.Outcome State Fault Refusal :=
  s.evaluateWord .high .low .high .low .high .high

/-- R144: word `101100`, `0`. -/
def execAlu101100 (s : State) : Host.Outcome State Fault Refusal :=
  s.evaluateWord .high .low .high .high .low .low

/-- R145: word `101101`, `-1`. -/
def execAlu101101 (s : State) : Host.Outcome State Fault Refusal :=
  s.evaluateWord .high .low .high .high .low .high

/-- R146: word `101110`, `-1`. -/
def execAlu101110 (s : State) : Host.Outcome State Fault Refusal :=
  s.evaluateWord .high .low .high .high .high .low

/-- R147: word `101111`, `0`. -/
def execAlu101111 (s : State) : Host.Outcome State Fault Refusal :=
  s.evaluateWord .high .low .high .high .high .high

/-- R148: word `110000`, `y`. -/
def execAlu110000 (s : State) : Host.Outcome State Fault Refusal :=
  s.evaluateWord .high .high .low .low .low .low

/-- R149: word `110001`, `!y`. -/
def execAlu110001 (s : State) : Host.Outcome State Fault Refusal :=
  s.evaluateWord .high .high .low .low .low .high

/-- R150: word `110010`, `y-1`. -/
def execAlu110010 (s : State) : Host.Outcome State Fault Refusal :=
  s.evaluateWord .high .high .low .low .high .low

/-- R151: word `110011`, `-y`. -/
def execAlu110011 (s : State) : Host.Outcome State Fault Refusal :=
  s.evaluateWord .high .high .low .low .high .high

/-- R152: word `110100`, `!y`. -/
def execAlu110100 (s : State) : Host.Outcome State Fault Refusal :=
  s.evaluateWord .high .high .low .high .low .low

/-- R153: word `110101`, `y`. -/
def execAlu110101 (s : State) : Host.Outcome State Fault Refusal :=
  s.evaluateWord .high .high .low .high .low .high

/-- R154: word `110110`, `-y-2`. -/
def execAlu110110 (s : State) : Host.Outcome State Fault Refusal :=
  s.evaluateWord .high .high .low .high .high .low

/-- R155: word `110111`, `y+1`. -/
def execAlu110111 (s : State) : Host.Outcome State Fault Refusal :=
  s.evaluateWord .high .high .low .high .high .high

/-- R156: word `111000`, `0`. -/
def execAlu111000 (s : State) : Host.Outcome State Fault Refusal :=
  s.evaluateWord .high .high .high .low .low .low

/-- R157: word `111001`, `-1`. -/
def execAlu111001 (s : State) : Host.Outcome State Fault Refusal :=
  s.evaluateWord .high .high .high .low .low .high

/-- R158: word `111010`, `-1`. -/
def execAlu111010 (s : State) : Host.Outcome State Fault Refusal :=
  s.evaluateWord .high .high .high .low .high .low

/-- R159: word `111011`, `0`. -/
def execAlu111011 (s : State) : Host.Outcome State Fault Refusal :=
  s.evaluateWord .high .high .high .low .high .high

/-- R160: word `111100`, `-1`. -/
def execAlu111100 (s : State) : Host.Outcome State Fault Refusal :=
  s.evaluateWord .high .high .high .high .low .low

/-- R161: word `111101`, `0`. -/
def execAlu111101 (s : State) : Host.Outcome State Fault Refusal :=
  s.evaluateWord .high .high .high .high .low .high

/-- R162: word `111110`, `-2`. -/
def execAlu111110 (s : State) : Host.Outcome State Fault Refusal :=
  s.evaluateWord .high .high .high .high .high .low

/-- R163: word `111111`, `1`. -/
def execAlu111111 (s : State) : Host.Outcome State Fault Refusal :=
  s.evaluateWord .high .high .high .high .high .high

end Sys2Proof.Machine
end

