-- ==== Sys2Proof/Machine/Dispatch.lean ====
section
/-! DEFINITION. Dispatch: one arm per constructor of Instr, each one call of that evaluation's meaning. -/

namespace Sys2Proof.Machine

/-- One evaluation (spec/00_scope.md R7): its inputs are the ports of the state, its outputs the next state's. -/
def exec (i : Instr) (s : State) : Host.Outcome State Fault Refusal :=
  match i with
  | .alu000000 => Sys2Proof.Machine.execAlu000000 s
  | .alu000001 => Sys2Proof.Machine.execAlu000001 s
  | .alu000010 => Sys2Proof.Machine.execAlu000010 s
  | .alu000011 => Sys2Proof.Machine.execAlu000011 s
  | .alu000100 => Sys2Proof.Machine.execAlu000100 s
  | .alu000101 => Sys2Proof.Machine.execAlu000101 s
  | .alu000110 => Sys2Proof.Machine.execAlu000110 s
  | .alu000111 => Sys2Proof.Machine.execAlu000111 s
  | .alu001000 => Sys2Proof.Machine.execAlu001000 s
  | .alu001001 => Sys2Proof.Machine.execAlu001001 s
  | .alu001010 => Sys2Proof.Machine.execAlu001010 s
  | .alu001011 => Sys2Proof.Machine.execAlu001011 s
  | .alu001100 => Sys2Proof.Machine.execAlu001100 s
  | .alu001101 => Sys2Proof.Machine.execAlu001101 s
  | .alu001110 => Sys2Proof.Machine.execAlu001110 s
  | .alu001111 => Sys2Proof.Machine.execAlu001111 s
  | .alu010000 => Sys2Proof.Machine.execAlu010000 s
  | .alu010001 => Sys2Proof.Machine.execAlu010001 s
  | .alu010010 => Sys2Proof.Machine.execAlu010010 s
  | .alu010011 => Sys2Proof.Machine.execAlu010011 s
  | .alu010100 => Sys2Proof.Machine.execAlu010100 s
  | .alu010101 => Sys2Proof.Machine.execAlu010101 s
  | .alu010110 => Sys2Proof.Machine.execAlu010110 s
  | .alu010111 => Sys2Proof.Machine.execAlu010111 s
  | .alu011000 => Sys2Proof.Machine.execAlu011000 s
  | .alu011001 => Sys2Proof.Machine.execAlu011001 s
  | .alu011010 => Sys2Proof.Machine.execAlu011010 s
  | .alu011011 => Sys2Proof.Machine.execAlu011011 s
  | .alu011100 => Sys2Proof.Machine.execAlu011100 s
  | .alu011101 => Sys2Proof.Machine.execAlu011101 s
  | .alu011110 => Sys2Proof.Machine.execAlu011110 s
  | .alu011111 => Sys2Proof.Machine.execAlu011111 s
  | .alu100000 => Sys2Proof.Machine.execAlu100000 s
  | .alu100001 => Sys2Proof.Machine.execAlu100001 s
  | .alu100010 => Sys2Proof.Machine.execAlu100010 s
  | .alu100011 => Sys2Proof.Machine.execAlu100011 s
  | .alu100100 => Sys2Proof.Machine.execAlu100100 s
  | .alu100101 => Sys2Proof.Machine.execAlu100101 s
  | .alu100110 => Sys2Proof.Machine.execAlu100110 s
  | .alu100111 => Sys2Proof.Machine.execAlu100111 s
  | .alu101000 => Sys2Proof.Machine.execAlu101000 s
  | .alu101001 => Sys2Proof.Machine.execAlu101001 s
  | .alu101010 => Sys2Proof.Machine.execAlu101010 s
  | .alu101011 => Sys2Proof.Machine.execAlu101011 s
  | .alu101100 => Sys2Proof.Machine.execAlu101100 s
  | .alu101101 => Sys2Proof.Machine.execAlu101101 s
  | .alu101110 => Sys2Proof.Machine.execAlu101110 s
  | .alu101111 => Sys2Proof.Machine.execAlu101111 s
  | .alu110000 => Sys2Proof.Machine.execAlu110000 s
  | .alu110001 => Sys2Proof.Machine.execAlu110001 s
  | .alu110010 => Sys2Proof.Machine.execAlu110010 s
  | .alu110011 => Sys2Proof.Machine.execAlu110011 s
  | .alu110100 => Sys2Proof.Machine.execAlu110100 s
  | .alu110101 => Sys2Proof.Machine.execAlu110101 s
  | .alu110110 => Sys2Proof.Machine.execAlu110110 s
  | .alu110111 => Sys2Proof.Machine.execAlu110111 s
  | .alu111000 => Sys2Proof.Machine.execAlu111000 s
  | .alu111001 => Sys2Proof.Machine.execAlu111001 s
  | .alu111010 => Sys2Proof.Machine.execAlu111010 s
  | .alu111011 => Sys2Proof.Machine.execAlu111011 s
  | .alu111100 => Sys2Proof.Machine.execAlu111100 s
  | .alu111101 => Sys2Proof.Machine.execAlu111101 s
  | .alu111110 => Sys2Proof.Machine.execAlu111110 s
  | .alu111111 => Sys2Proof.Machine.execAlu111111 s
  | .nand => Sys2Proof.Machine.execNand s
  | .not => Sys2Proof.Machine.execNot s
  | .and => Sys2Proof.Machine.execAnd s
  | .or => Sys2Proof.Machine.execOr s
  | .xor => Sys2Proof.Machine.execXor s
  | .mux => Sys2Proof.Machine.execMux s
  | .dmux => Sys2Proof.Machine.execDmux s
  | .notN => Sys2Proof.Machine.execNotN s
  | .andN => Sys2Proof.Machine.execAndN s
  | .orN => Sys2Proof.Machine.execOrN s
  | .muxN => Sys2Proof.Machine.execMuxN s
  | .orMWay => Sys2Proof.Machine.execOrMWay s
  | .andMWay => Sys2Proof.Machine.execAndMWay s
  | .mux4WayN => Sys2Proof.Machine.execMux4WayN s
  | .mux8WayN => Sys2Proof.Machine.execMux8WayN s
  | .dmux4Way => Sys2Proof.Machine.execDmux4Way s
  | .dmux8Way => Sys2Proof.Machine.execDmux8Way s
  | .halfAdder => Sys2Proof.Machine.execHalfAdder s
  | .fullAdder => Sys2Proof.Machine.execFullAdder s
  | .nAdder => Sys2Proof.Machine.execNAdder s
  | .nIncrementer => Sys2Proof.Machine.execNIncrementer s
  | .alu => Sys2Proof.Machine.execAlu s

end Sys2Proof.Machine
end

