-- ==== Sys2Proof/Machine/Step.lean ====
section
/-! DEFINITION. Step: one step is one evaluation, the one the host asks for (spec/00_scope.md R7; D2). -/

namespace Sys2Proof.Machine

/-- The requested evaluation on what stands at the input ports; a refusal where none is asked for. There is no
program counter to advance (R16) and nothing is around the evaluation. -/
def step (s : State) : Host.Outcome State Fault Refusal :=
  match s.requested with
  | .ok i => exec i s
  | .error r => .refused r

/-- The host asks for the ALU evaluation under a control word of the opcode table. The hardware has no instruction
stream (R16, R29), so this stands for the host's selection (notes/assumptions/5.md). -/
def State.withFetchWord (s : State) (nbits w : Nat) : State := s.ask (.word (tableSignals nbits w))

end Sys2Proof.Machine
end

