-- ==== Sys2Proof/Machine/Codec.lean ====
section
/-! DEFINITION. Codec: the host interface that turns integers into 16-bit buses and back (spec/45_codec.md R170 to
R174). These are host functions, not cells (R3); no cell calls them. -/

namespace Sys2Proof.Machine

/-- R171: the two's-complement bit pattern, most significant bit first; refused outside the signed 16-bit range (D17). -/
def intToBus16 (value : Int) : Except Refusal (Bus width16) :=
  if -32768 ≤ value ∧ value ≤ 32767 then .ok (Bus.ofInt width16 value) else .error .integerOutOfRange

/-- R172: with the sign bit `High`, complement and increment, read the magnitude as unsigned, and negate it. -/
def bus16ToInt (bus : Bus width16) : Int :=
  match bus.msb with
  | .high => -((nIncrementer (notN bus)).val : Int)
  | .low => (bus.val : Int)

end Sys2Proof.Machine
end

