-- ==== Sys2Proof/Machine/Boundary.lean ====
section
/-! DEFINITION. Boundary: what the host can do to the hardware between evaluations (spec/45_codec.md R170): place the
cells with their parameters, drive the input ports, read the outputs, wire an output to an input. Here is where buses are built, so here
`WidthMismatch` is refused (spec/20_memory.md R25; spec/60_exceptions.md R181). -/

namespace Sys2Proof.Machine

/-- The single-signal data and selector ports. -/
inductive SignalPort where
  | a | b | carryIn | inp | sel | sel1 | sel2 | sel3
deriving DecidableEq, Repr

/-- The control inputs of the `alu` cell. -/
inductive ControlPort where
  | zx | nx | zy | ny | f | no
deriving DecidableEq, Repr

/-- The bus input ports. -/
inductive BusPort where
  | bus | a | b | c | d | e | f | g | h | busA | busB | x | y
deriving DecidableEq, Repr

/-- R25, R181: a list of wires is a bus of width `N` only if it is exactly that long; nothing is truncated or padded. -/
def connectBus (N : Width) (wires : List Signal) : Except Refusal (Bus N) :=
  if h : wires.length = N.n then .ok ⟨wires, h⟩ else .error .widthMismatch

/-- The cells placed at width `n` with a reading of the wide DMUX's index; a width of 0 is refused (R5, R181). -/
def place (n : Nat) (dmuxSel1Low : Bool) : Host.Outcome State Fault Refusal :=
  if h : 0 < n then .next (State.idle ⟨⟨n, h⟩, dmuxSel1Low⟩) else .refused .widthMismatch

/-- One signal onto one single-signal port. -/
def SignalPorts.set (p : SignalPorts) (port : SignalPort) (v : Signal) : SignalPorts :=
  match port with
  | .a => { p with a := v }
  | .b => { p with b := v }
  | .carryIn => { p with carryIn := v }
  | .inp => { p with inp := v }
  | .sel => { p with sel := v }
  | .sel1 => { p with sel1 := v }
  | .sel2 => { p with sel2 := v }
  | .sel3 => { p with sel3 := v }

/-- One signal onto one control input. -/
def ControlPorts.set (p : ControlPorts) (port : ControlPort) (v : Signal) : ControlPorts :=
  match port with
  | .zx => { p with zx := v }
  | .nx => { p with nx := v }
  | .zy => { p with zy := v }
  | .ny => { p with ny := v }
  | .f => { p with f := v }
  | .no => { p with no := v }

/-- One bus onto one bus port. -/
def BusPorts.set {N : Width} (p : BusPorts N) (port : BusPort) (v : Bus N) : BusPorts N :=
  match port with
  | .bus => { p with bus := v }
  | .a => { p with a := v }
  | .b => { p with b := v }
  | .c => { p with c := v }
  | .d => { p with d := v }
  | .e => { p with e := v }
  | .f => { p with f := v }
  | .g => { p with g := v }
  | .h => { p with h := v }
  | .busA => { p with busA := v }
  | .busB => { p with busB := v }
  | .x => { p with x := v }
  | .y => { p with y := v }

/-- The host drives a data or selector port. -/
def State.driveSignal (s : State) (port : SignalPort) (v : Signal) : State :=
  { s with inputs := { s.inputs with signal := s.inputs.signal.set port v } }

/-- The host drives a control input of the `alu` cell. -/
def State.driveControl (s : State) (port : ControlPort) (v : Signal) : State :=
  { s with inputs := { s.inputs with control := s.inputs.control.set port v } }

/-- The host drives a bus port with a bus of the width of the placed cells. -/
def State.driveBus (s : State) (port : BusPort) (v : Bus s.config.width) : State :=
  { s with inputs := { s.inputs with bus := s.inputs.bus.set port v } }

/-- The host connects a list of wires to a bus port (R25, R181). -/
def State.driveWires (s : State) (port : BusPort) (wires : List Signal) : Host.Outcome State Fault Refusal :=
  match connectBus s.config.width wires with
  | .ok v => .next (s.driveBus port v)
  | .error r => .refused r

/-- The host drives a bus port with an integer through the codec (R170, R171), whose bus is 16 wide. -/
def State.driveInt (s : State) (port : BusPort) (value : Int) : Host.Outcome State Fault Refusal :=
  match intToBus16 value with
  | .ok v => s.driveWires port v.wires
  | .error r => .refused r

/-- The host decodes a bus that must be 16 wide (R172, R181). -/
def decodeBus {N : Width} (b : Bus N) : Except Refusal Int :=
  match connectBus width16 b.wires with
  | .ok v => .ok (bus16ToInt v)
  | .error r => .error r

/-- The integer the last evaluation's result bus stands for, where there is one (R170, R172). -/
def State.readInt (s : State) : Option (Except Refusal Int) :=
  (s.outputs.bind Outputs.bus?).map decodeBus

/-- The single-signal output ports. -/
inductive SignalOutput where
  | out | outA | outB | sum | carry | carryOut | zr | ng | o0 | o1 | o2 | o3 | o4 | o5 | o6 | o7
deriving DecidableEq, Repr

/-- The value of a single-signal output port, where the evaluation has that port. -/
def Outputs.signalAt {N : Width} : Outputs N → SignalOutput → Option Signal
  | .signal v, .out => some v
  | .dmux r, .outA => some r.outA
  | .dmux r, .outB => some r.outB
  | .halfAdder r, .sum => some r.sum
  | .halfAdder r, .carry => some r.carry
  | .fullAdder r, .sum => some r.sum
  | .fullAdder r, .carryOut => some r.carryOut
  | .alu r, .zr => some r.zr
  | .alu r, .ng => some r.ng
  | .dmux4 r, .o0 => some r.o0
  | .dmux4 r, .o1 => some r.o1
  | .dmux4 r, .o2 => some r.o2
  | .dmux4 r, .o3 => some r.o3
  | .dmux8 r, .o0 => some r.o0
  | .dmux8 r, .o1 => some r.o1
  | .dmux8 r, .o2 => some r.o2
  | .dmux8 r, .o3 => some r.o3
  | .dmux8 r, .o4 => some r.o4
  | .dmux8 r, .o5 => some r.o5
  | .dmux8 r, .o6 => some r.o6
  | .dmux8 r, .o7 => some r.o7
  | _, _ => none

/-- The host wires the result bus of the last evaluation to a bus port: the one way in which a result reaches another
evaluation (R14). Where the last evaluation has no result bus there is nothing to wire. -/
def State.wireBus (s : State) (port : BusPort) : Host.Outcome State Fault Refusal :=
  match s.outputs.bind Outputs.bus? with
  | some v => .next (s.driveBus port v)
  | none => .refused .noSuchOutput

/-- The host wires a single-signal output of the last evaluation to a data or selector port (R14). -/
def State.wireSignal (s : State) (output : SignalOutput) (port : SignalPort) : Host.Outcome State Fault Refusal :=
  match s.outputs.bind (·.signalAt output) with
  | some v => .next (s.driveSignal port v)
  | none => .refused .noSuchOutput

/-- The host wires a single-signal output of the last evaluation to a control input of the `alu` cell (R12, R14). -/
def State.wireControl (s : State) (output : SignalOutput) (port : ControlPort) : Host.Outcome State Fault Refusal :=
  match s.outputs.bind (·.signalAt output) with
  | some v => .next (s.driveControl port v)
  | none => .refused .noSuchOutput

end Sys2Proof.Machine
end

