-- ==== Sys2Proof/Safety.lean ====
section
/-! DEFINITION. Safety: the terms in which claims about the machine are stated. Here stands what the spec says each
evaluation computes, as a function of numbers and truth values that mentions no gate; the machine of Machine/ computes by
the spec's NAND structures. That the two agree is claimed in Certificates/, not assumed (spec/00_scope.md R6). -/

namespace Sys2Proof.Machine

/-- The signal that is `High` exactly when `p` holds. -/
def signalOf (p : Prop) [Decidable p] : Signal := if p then .high else .low

/-- The outputs of the ALU for the result `v`: `zr` is `High` iff the result is zero, `ng` iff it is negative as a
two's-complement number (R81, R82, R85). -/
def aluResult {N : Width} (v : BitVec N.n) : AluOut N := ⟨.ofBV v, signalOf (v = 0), signalOf (v.msb = true)⟩

/-- The 32 distinct functions that the 64 control words compute between them (spec/30_encoding.md R33). Their names are
aliases for control words (R37). -/
inductive AluFunction where
  | zero | minusOne | x | notX | y | notY
  | one | minusTwo | negX | negY | xPlus1 | yPlus1 | xMinus1 | yMinus1 | negXMinus2 | negYMinus2
  | xPlusY | xMinusY | yMinusX | xPlusYPlus1 | xMinusYMinus1 | yMinusXMinus1 | negXMinusYMinus1 | negXMinusYMinus2
  | xAndY | xOrY | xNandY | xNorY | xAndNotY | notXAndY | xOrNotY | notXOrY
deriving DecidableEq, Repr

/-- What each function computes of its operands, arithmetic being modulo `2^N` (R84). -/
def AluFunction.apply {n : Nat} (x y : BitVec n) : AluFunction → BitVec n
  | .zero => 0
  | .minusOne => -1
  | .x => x
  | .notX => ~~~x
  | .y => y
  | .notY => ~~~y
  | .one => 1
  | .minusTwo => -2
  | .negX => -x
  | .negY => -y
  | .xPlus1 => x + 1
  | .yPlus1 => y + 1
  | .xMinus1 => x - 1
  | .yMinus1 => y - 1
  | .negXMinus2 => -x - 2
  | .negYMinus2 => -y - 2
  | .xPlusY => x + y
  | .xMinusY => x - y
  | .yMinusX => y - x
  | .xPlusYPlus1 => x + y + 1
  | .xMinusYMinus1 => x - y - 1
  | .yMinusXMinus1 => y - x - 1
  | .negXMinusYMinus1 => -x - y - 1
  | .negXMinusYMinus2 => -x - y - 2
  | .xAndY => x &&& y
  | .xOrY => x ||| y
  | .xNandY => ~~~(x &&& y)
  | .xNorY => ~~~(x ||| y)
  | .xAndNotY => x &&& ~~~y
  | .notXAndY => ~~~x &&& y
  | .xOrNotY => x ||| ~~~y
  | .notXOrY => ~~~x ||| y

/-- The `function` column of the opcode table (spec/44_alu_functions.md); a row that is no control word has none. -/
def aluFunctionOf : Instr → Option AluFunction
  | .alu000000 => some .xAndY
  | .alu000001 => some .xNandY
  | .alu000010 => some .xPlusY
  | .alu000011 => some .negXMinusYMinus1
  | .alu000100 => some .xAndNotY
  | .alu000101 => some .notXOrY
  | .alu000110 => some .xMinusYMinus1
  | .alu000111 => some .yMinusX
  | .alu001000 => some .zero
  | .alu001001 => some .minusOne
  | .alu001010 => some .x
  | .alu001011 => some .notX
  | .alu001100 => some .x
  | .alu001101 => some .notX
  | .alu001110 => some .xMinus1
  | .alu001111 => some .negX
  | .alu010000 => some .notXAndY
  | .alu010001 => some .xOrNotY
  | .alu010010 => some .yMinusXMinus1
  | .alu010011 => some .xMinusY
  | .alu010100 => some .xNorY
  | .alu010101 => some .xOrY
  | .alu010110 => some .negXMinusYMinus2
  | .alu010111 => some .xPlusYPlus1
  | .alu011000 => some .zero
  | .alu011001 => some .minusOne
  | .alu011010 => some .notX
  | .alu011011 => some .x
  | .alu011100 => some .notX
  | .alu011101 => some .x
  | .alu011110 => some .negXMinus2
  | .alu011111 => some .xPlus1
  | .alu100000 => some .zero
  | .alu100001 => some .minusOne
  | .alu100010 => some .y
  | .alu100011 => some .notY
  | .alu100100 => some .zero
  | .alu100101 => some .minusOne
  | .alu100110 => some .notY
  | .alu100111 => some .y
  | .alu101000 => some .zero
  | .alu101001 => some .minusOne
  | .alu101010 => some .zero
  | .alu101011 => some .minusOne
  | .alu101100 => some .zero
  | .alu101101 => some .minusOne
  | .alu101110 => some .minusOne
  | .alu101111 => some .zero
  | .alu110000 => some .y
  | .alu110001 => some .notY
  | .alu110010 => some .yMinus1
  | .alu110011 => some .negY
  | .alu110100 => some .notY
  | .alu110101 => some .y
  | .alu110110 => some .negYMinus2
  | .alu110111 => some .yPlus1
  | .alu111000 => some .zero
  | .alu111001 => some .minusOne
  | .alu111010 => some .minusOne
  | .alu111011 => some .zero
  | .alu111100 => some .minusOne
  | .alu111101 => some .zero
  | .alu111110 => some .minusTwo
  | .alu111111 => some .one
  | .nand | .not | .and | .or | .xor | .mux | .dmux | .notN | .andN | .orN | .muxN
  | .orMWay | .andMWay | .mux4WayN | .mux8WayN | .dmux4Way | .dmux8Way | .halfAdder | .fullAdder | .nAdder | .nIncrementer | .alu => none

/-- The `canonical` column: the word of each of the 18 named functions (R33). Only a label (D18): no behaviour depends
on it. -/
def AluFunction.canonicalWord : AluFunction → Option Instr
  | .zero => some .alu101010
  | .minusOne => some .alu111010
  | .x => some .alu001100
  | .notX => some .alu001101
  | .y => some .alu110000
  | .notY => some .alu110001
  | .one => some .alu111111
  | .negX => some .alu001111
  | .negY => some .alu110011
  | .xPlus1 => some .alu011111
  | .yPlus1 => some .alu110111
  | .xMinus1 => some .alu001110
  | .yMinus1 => some .alu110010
  | .xPlusY => some .alu000010
  | .xMinusY => some .alu010011
  | .yMinusX => some .alu000111
  | .xAndY => some .alu000000
  | .xOrY => some .alu010101
  | .minusTwo | .negXMinus2 | .negYMinus2 | .xPlusYPlus1 | .xMinusYMinus1 | .yMinusXMinus1 | .negXMinusYMinus1
  | .negXMinusYMinus2 | .xNandY | .xNorY | .xAndNotY | .notXAndY | .xOrNotY | .notXOrY => none

/-- R83's closed form of the result bus as a number. -/
def aluClosedForm (N x y : Nat) (zx nx zy ny f no : Signal) : Nat :=
  let M := 2 ^ N - 1
  let X := (if zx = .high then 0 else x) ^^^ (if nx = .high then M else 0)
  let Y := (if zy = .high then 0 else y) ^^^ (if ny = .high then M else 0)
  let O := if f = .high then (X + Y) % 2 ^ N else X &&& Y
  O ^^^ (if no = .high then M else 0)

/-- R83's closed form of the three outputs. -/
def aluClosedOut {N : Width} (x y : Bus N) (zx nx zy ny f no : Signal) : AluOut N :=
  let v := aluClosedForm N.n x.val y.val zx nx zy ny f no
  ⟨.ofInt N v, signalOf (v = 0), signalOf (2 ^ (N.n - 1) ≤ v)⟩

/-- The index that two selectors give, `sel1` low-order (R57). -/
def index4 (sel1 sel2 : Signal) : Nat := sel1.bit + 2 * sel2.bit

/-- The index that three selectors give, `sel1` low-order (R58). -/
def index8 (sel1 sel2 sel3 : Signal) : Nat := sel1.bit + 2 * sel2.bit + 4 * sel3.bit

/-- The output index of `dmux_4_way` under either reading of D5 (R59). -/
def dmuxIndex4 (sel1Low : Bool) (sel1 sel2 : Signal) : Nat :=
  if sel1Low then index4 sel1 sel2 else index4 sel2 sel1

/-- The output index of `dmux_8_way` under either reading of D5 (R60). -/
def dmuxIndex8 (sel1Low : Bool) (sel1 sel2 sel3 : Signal) : Nat :=
  if sel1Low then index8 sel1 sel2 sel3 else index8 sel3 sel2 sel1

/-- What the spec says an evaluation outputs, given the parameters and the input ports: the function part of each
cell's rule (R40 to R46, R51 to R60, R65 to R68, R83) and the closed form of each control word (R100 to R163). -/
def specOutputs (c : Config) (p : Inputs c.width) : Instr → Outputs c.width
  | .alu000000 => .alu (aluResult (p.bus.x.bv &&& p.bus.y.bv))
  | .alu000001 => .alu (aluResult (~~~(p.bus.x.bv &&& p.bus.y.bv)))
  | .alu000010 => .alu (aluResult (p.bus.x.bv + p.bus.y.bv))
  | .alu000011 => .alu (aluResult (-p.bus.x.bv - p.bus.y.bv - 1))
  | .alu000100 => .alu (aluResult (p.bus.x.bv &&& ~~~p.bus.y.bv))
  | .alu000101 => .alu (aluResult (~~~p.bus.x.bv ||| p.bus.y.bv))
  | .alu000110 => .alu (aluResult (p.bus.x.bv - p.bus.y.bv - 1))
  | .alu000111 => .alu (aluResult (p.bus.y.bv - p.bus.x.bv))
  | .alu001000 => .alu (aluResult (0))
  | .alu001001 => .alu (aluResult (-1))
  | .alu001010 => .alu (aluResult (p.bus.x.bv))
  | .alu001011 => .alu (aluResult (~~~p.bus.x.bv))
  | .alu001100 => .alu (aluResult (p.bus.x.bv))
  | .alu001101 => .alu (aluResult (~~~p.bus.x.bv))
  | .alu001110 => .alu (aluResult (p.bus.x.bv - 1))
  | .alu001111 => .alu (aluResult (-p.bus.x.bv))
  | .alu010000 => .alu (aluResult (~~~p.bus.x.bv &&& p.bus.y.bv))
  | .alu010001 => .alu (aluResult (p.bus.x.bv ||| ~~~p.bus.y.bv))
  | .alu010010 => .alu (aluResult (p.bus.y.bv - p.bus.x.bv - 1))
  | .alu010011 => .alu (aluResult (p.bus.x.bv - p.bus.y.bv))
  | .alu010100 => .alu (aluResult (~~~(p.bus.x.bv ||| p.bus.y.bv)))
  | .alu010101 => .alu (aluResult (p.bus.x.bv ||| p.bus.y.bv))
  | .alu010110 => .alu (aluResult (-p.bus.x.bv - p.bus.y.bv - 2))
  | .alu010111 => .alu (aluResult (p.bus.x.bv + p.bus.y.bv + 1))
  | .alu011000 => .alu (aluResult (0))
  | .alu011001 => .alu (aluResult (-1))
  | .alu011010 => .alu (aluResult (~~~p.bus.x.bv))
  | .alu011011 => .alu (aluResult (p.bus.x.bv))
  | .alu011100 => .alu (aluResult (~~~p.bus.x.bv))
  | .alu011101 => .alu (aluResult (p.bus.x.bv))
  | .alu011110 => .alu (aluResult (-p.bus.x.bv - 2))
  | .alu011111 => .alu (aluResult (p.bus.x.bv + 1))
  | .alu100000 => .alu (aluResult (0))
  | .alu100001 => .alu (aluResult (-1))
  | .alu100010 => .alu (aluResult (p.bus.y.bv))
  | .alu100011 => .alu (aluResult (~~~p.bus.y.bv))
  | .alu100100 => .alu (aluResult (0))
  | .alu100101 => .alu (aluResult (-1))
  | .alu100110 => .alu (aluResult (~~~p.bus.y.bv))
  | .alu100111 => .alu (aluResult (p.bus.y.bv))
  | .alu101000 => .alu (aluResult (0))
  | .alu101001 => .alu (aluResult (-1))
  | .alu101010 => .alu (aluResult (0))
  | .alu101011 => .alu (aluResult (-1))
  | .alu101100 => .alu (aluResult (0))
  | .alu101101 => .alu (aluResult (-1))
  | .alu101110 => .alu (aluResult (-1))
  | .alu101111 => .alu (aluResult (0))
  | .alu110000 => .alu (aluResult (p.bus.y.bv))
  | .alu110001 => .alu (aluResult (~~~p.bus.y.bv))
  | .alu110010 => .alu (aluResult (p.bus.y.bv - 1))
  | .alu110011 => .alu (aluResult (-p.bus.y.bv))
  | .alu110100 => .alu (aluResult (~~~p.bus.y.bv))
  | .alu110101 => .alu (aluResult (p.bus.y.bv))
  | .alu110110 => .alu (aluResult (-p.bus.y.bv - 2))
  | .alu110111 => .alu (aluResult (p.bus.y.bv + 1))
  | .alu111000 => .alu (aluResult (0))
  | .alu111001 => .alu (aluResult (-1))
  | .alu111010 => .alu (aluResult (-1))
  | .alu111011 => .alu (aluResult (0))
  | .alu111100 => .alu (aluResult (-1))
  | .alu111101 => .alu (aluResult (0))
  | .alu111110 => .alu (aluResult (-2))
  | .alu111111 => .alu (aluResult (1))
  | .nand => .signal (signalOf ¬(p.signal.a = .high ∧ p.signal.b = .high))
  | .not => .signal (signalOf (p.signal.a = .low))
  | .and => .signal (signalOf (p.signal.a = .high ∧ p.signal.b = .high))
  | .or => .signal (signalOf (p.signal.a = .high ∨ p.signal.b = .high))
  | .xor => .signal (signalOf (p.signal.a ≠ p.signal.b))
  | .mux => .signal (if p.signal.sel = .high then p.signal.b else p.signal.a)
  | .dmux => .dmux ⟨signalOf (p.signal.inp = .high ∧ p.signal.sel = .low),
      signalOf (p.signal.inp = .high ∧ p.signal.sel = .high)⟩
  | .notN => .bus (.ofBV (~~~p.bus.bus.bv))
  | .andN => .bus (.ofBV (p.bus.a.bv &&& p.bus.b.bv))
  | .orN => .bus (.ofBV (p.bus.a.bv ||| p.bus.b.bv))
  | .muxN => .bus (if p.signal.sel = .high then p.bus.b else p.bus.a)
  | .orMWay => .signal (signalOf (p.bus.bus.val ≠ 0))
  | .andMWay => .signal (signalOf (p.bus.bus.val = 2 ^ c.width.n - 1))
  | .mux4WayN => .bus ([p.bus.a, p.bus.b, p.bus.c, p.bus.d].getD (index4 p.signal.sel1 p.signal.sel2) p.bus.a)
  | .mux8WayN => .bus ([p.bus.a, p.bus.b, p.bus.c, p.bus.d, p.bus.e, p.bus.f, p.bus.g, p.bus.h].getD
      (index8 p.signal.sel1 p.signal.sel2 p.signal.sel3) p.bus.a)
  | .dmux4Way =>
    let line := fun k => signalOf (p.signal.inp = .high ∧ dmuxIndex4 c.dmuxSel1Low p.signal.sel1 p.signal.sel2 = k)
    .dmux4 ⟨line 0, line 1, line 2, line 3⟩
  | .dmux8Way =>
    let line := fun k => signalOf
      (p.signal.inp = .high ∧ dmuxIndex8 c.dmuxSel1Low p.signal.sel1 p.signal.sel2 p.signal.sel3 = k)
    .dmux8 ⟨line 0, line 1, line 2, line 3, line 4, line 5, line 6, line 7⟩
  | .halfAdder =>
    let total := p.signal.a.bit + p.signal.b.bit
    .halfAdder ⟨signalOf (total % 2 = 1), signalOf (2 ≤ total)⟩
  | .fullAdder =>
    let total := p.signal.a.bit + p.signal.b.bit + p.signal.carryIn.bit
    .fullAdder ⟨signalOf (total % 2 = 1), signalOf (2 ≤ total)⟩
  | .nAdder => .bus (.ofInt c.width (p.bus.busA.val + p.bus.busB.val))
  | .nIncrementer => .bus (.ofInt c.width (p.bus.bus.val + 1))
  | .alu => .alu (aluClosedOut p.bus.x p.bus.y p.control.zx p.control.nx p.control.zy p.control.ny p.control.f
      p.control.no)

/-- The output ports, where an evaluation has been made, carry what the spec says the requested evaluation gives for
what stands at the input ports (R14, R27). -/
def State.Settled (s : State) : Prop :=
  ∀ o, s.outputs = some o → ∃ i, s.requested = .ok i ∧ o = specOutputs s.config s.inputs i

/-- An evaluation is selected by a control word (R30). -/
def isControlWord (i : Instr) : Prop := ∃ w, encode i = .word w

/-- The content of one rule of spec/44_alu_functions.md: the row of the word with number `cw`, its staged operands `x2`
and `y2`, the combined result `o1`, the result `out`, and the outputs of the evaluation with both flags. -/
def WordComputes (i : Instr) (cw : Nat) (x2 y2 : (n : Nat) → BitVec n → BitVec n)
    (o1 out : (n : Nat) → BitVec n → BitVec n → BitVec n) : Prop :=
  decodeTableWord 8 cw = some i ∧
  (∀ zx nx zy ny f no, encode i = .word [zx, nx, zy, ny, f, no] →
    ∀ (N : Width) (x y : Bus N),
      (aluWires x y zx nx zy ny f no).x2.bv = x2 N.n x.bv ∧
      (aluWires x y zx nx zy ny f no).y2.bv = y2 N.n y.bv ∧
      (aluWires x y zx nx zy ny f no).o1.bv = o1 N.n x.bv y.bv ∧
      (aluWires x y zx nx zy ny f no).out.bv = out N.n x.bv y.bv) ∧
  ∀ s : State, exec i s =
    .next (s.withOutputs (.alu (aluResult (out s.config.width.n s.inputs.bus.x.bv s.inputs.bus.y.bv))))

/-- No other control word computes the function of `i`, at any width of at least 2. (At width 1 only 16 of the 32
functions differ, so there the sentence of the rules is not true: notes/assumptions/8.md.) -/
def NoOtherWord (i : Instr) : Prop :=
  ∀ (j : Instr) (zx nx zy ny f no zx' nx' zy' ny' f' no' : Signal),
    encode i = .word [zx, nx, zy, ny, f, no] → encode j = .word [zx', nx', zy', ny', f', no'] → j ≠ i →
    ∀ N : Width, 2 ≤ N.n →
      ∃ x y : Bus N, (alu x y zx' nx' zy' ny' f' no').out ≠ (alu x y zx nx zy ny f no).out

end Sys2Proof.Machine
end

