-- ==== Sys2Proof/Certificates/Slice0/Obligations.lean ====
section
/-! DEFINITION. Obligations: the statements about the model that are put to the provers. Each says which rules of spec/
it formalises in OBLIGATIONS.json. -/

open Sys2Proof Sys2Proof.Machine

/-- Sample control words, written out from the table, decode to their rows -/
def Obligations.ControlWordSamplesDecode : Prop :=
  decode (.word [.low, .low, .low, .low, .high, .low]) = .ok .alu000010 ∧
  decode (.word [.high, .high, .low, .high, .high, .high]) = .ok .alu110111 ∧
  decode (.word [.high, .high, .high, .high, .high, .high]) = .ok .alu111111 ∧
  decode (.word [.low, .high, .low, .low, .high, .high]) = .ok .alu010011 ∧
  decode (.word [.low, .low, .high, .high, .high, .high]) = .ok .alu001111 ∧
  decodeTableWord 8 2 = some .alu000010 ∧ decodeTableWord 8 55 = some .alu110111 ∧
  decodeTableWord 8 63 = some .alu111111 ∧ decodeTableWord 8 19 = some .alu010011 ∧
  decodeTableWord 8 15 = some .alu001111 ∧ decode (.placed .nand) = .ok .nand

/-- A selector decodes to an evaluation exactly when it is that evaluation's encoding -/
def Obligations.DecodeReadsExactlyWhatEncodeWrites : Prop :=
  ∀ (r : Selector) (i : Instr), decode r = .ok i ↔ r = encode i

/-- The number of a control word is 32*zx + 16*nx + 8*zy + 4*ny + 2*f + no, and every such number has its row -/
def Obligations.ControlWordNumberSelectsItsRow : Prop :=
  ∀ zx nx zy ny f no : Signal, ∃ i,
    decodeTableWord 8 (32 * zx.bit + 16 * nx.bit + 8 * zy.bit + 4 * ny.bit + 2 * f.bit + no.bit) = some i ∧
    encode i = .word [zx, nx, zy, ny, f, no]

/-- Every 6-bit value and every word of six signals decodes to a row; that no other value or word does is the model's choice (log entries 9, 14) -/
def Obligations.EverySixBitValueDecodes : Prop :=
  (∀ w, (∃ i, decodeTableWord 8 w = some i) ↔ w < 64) ∧
  ∀ signals : List Signal,
    (signals.length = 6 → ∃ i, decode (.word signals) = .ok i ∧ isControlWord i) ∧
    (signals.length ≠ 6 → decode (.word signals) = .error (.notSixSignals signals.length))

/-- A step runs the evaluation that the host asks for (the request is the model's own state: log entry 1) -/
def Obligations.StepRunsTheRequestedEvaluation : Prop :=
  ∀ (s : State) (sel : Selector) (i : Instr), s.request = some sel → decode sel = .ok i → step s = exec i s

/-- A step without a request, or with a word that is not six signals, is refused by name (the model's choices: log entries 4 and 14) -/
def Obligations.StepRefusesWhatIsNoEvaluation : Prop :=
  (∀ s : State, s.request = none → step s = .refused .noEvaluation) ∧
  (∀ (s : State) (signals : List Signal), s.request = some (.word signals) → signals.length ≠ 6 →
    step s = .refused (.notAControlWord signals.length)) ∧
  ∀ (s : State) (sel : Selector) (i : Instr), s.request = some sel → decode sel = .ok i → ∃ t, step s = .next t

/-- Every evaluation of every cell and every control word completes, on every input -/
def Obligations.EveryEvaluationCompletes : Prop :=
  ∀ (i : Instr) (s : State), ∃ o : Outputs s.config.width, exec i s = .next (s.withOutputs o)

/-- A step changes nothing but the output ports (as the model holds them: log entry 1) -/
def Obligations.StepWritesOnlyOutputs : Prop :=
  ∀ s t : State, step s = .next t →
    ∃ o : Outputs s.config.width,
      t = { config := s.config, request := s.request, inputs := s.inputs, outputs := some o }

/-- An evaluation gives the same outputs whatever was evaluated before it -/
def Obligations.OutputsDoNotDependOnHistory : Prop :=
  (∀ (i j : Instr) (s t : State), exec i s = .next t → exec j t = exec j s) ∧
  (∀ (i : Instr) (s : State) (o : Option (Outputs s.config.width)),
    exec i { config := s.config, request := s.request, inputs := s.inputs, outputs := o } = exec i s) ∧
  ∀ (i : Instr) (s : State) (sel : Option Selector),
    (∃ o : Outputs s.config.width, exec i s = .next (s.withOutputs o) ∧
      exec i { config := s.config, request := sel, inputs := s.inputs, outputs := s.outputs } =
        .next { config := s.config, request := sel, inputs := s.inputs, outputs := some o })

/-- Repeating an evaluation with the same inputs gives the same outputs and changes nothing -/
def Obligations.RepeatedStepChangesNothing : Prop :=
  ∀ s t : State, step s = .next t → step t = .next t

/-- After every step the output ports carry what the spec says for the inputs at the ports (held in the model's own state: log entry 1) -/
def Obligations.StepLeavesOutputsSettled : Prop :=
  ∀ s t : State, s.Settled → step s = .next t → t.Settled ∧ t.outputs ≠ none

/-- At reset nothing is asked for or evaluated and the parameters have their reference values (the model's own state: log entries 1, 2) -/
def Obligations.ResetIsSettled : Prop :=
  State.reset.config.width.n = 16 ∧ State.reset.config.dmuxSel1Low = true ∧ State.reset.request = none ∧
  State.reset.outputs = none ∧ State.reset.Settled

/-- nand is Low only when both inputs are High -/
def Obligations.NandExecutes : Prop :=
  (∀ s : State, exec .nand s = .next (s.withOutputs (.signal
    (if s.inputs.signal.a = .high ∧ s.inputs.signal.b = .high then .low else .high)))) ∧
  (∀ a, nandGate a a = if a = .high then .low else .high) ∧
  ∀ a b, nandGate a b = nandGate b a

/-- not is one NAND of its input with itself, and complements it -/
def Obligations.NotExecutes : Prop :=
  (∀ a, notGate a = nandGate a a) ∧ (∀ a, notGate a = (notNet a).run ∧ (notNet a).nands = 1) ∧
  ∀ s : State, exec .not s = .next (s.withOutputs (.signal
    (if s.inputs.signal.a = .low then .high else .low)))

/-- and is built from NAND as the spec says, and is High iff both inputs are -/
def Obligations.AndExecutes : Prop :=
  (∀ a b, andGate a b = nandGate (nandGate a b) (nandGate a b)) ∧
  (∀ s : State, exec .and s = .next (s.withOutputs (.signal
    (if s.inputs.signal.a = .high ∧ s.inputs.signal.b = .high then .high else .low))))

/-- or is built from NAND as the spec says, and is High iff some input is -/
def Obligations.OrExecutes : Prop :=
  (∀ a b, orGate a b = nandGate (nandGate a a) (nandGate b b)) ∧
  (∀ s : State, exec .or s = .next (s.withOutputs (.signal
    (if s.inputs.signal.a = .high ∨ s.inputs.signal.b = .high then .high else .low))))

/-- xor is built from NAND as the spec says, and is High iff exactly one input is -/
def Obligations.XorExecutes : Prop :=
  (∀ a b, xorGate a b = nandGate (nandGate (nandGate a b) a) (nandGate (nandGate a b) b)) ∧
  (∀ s : State, exec .xor s = .next (s.withOutputs (.signal
    (if s.inputs.signal.a = s.inputs.signal.b then .low else .high))))

/-- mux is built from NAND as the spec says, and selects a when sel is Low and b when sel is High -/
def Obligations.MuxExecutes : Prop :=
  (∀ a b sel, muxGate a b sel = nandGate (nandGate a (nandGate sel sel)) (nandGate b sel)) ∧
  (∀ s : State, exec .mux s = .next (s.withOutputs (.signal
    (if s.inputs.signal.sel = .low then s.inputs.signal.a else s.inputs.signal.b))))

/-- dmux routes its input to the selected output and holds the other Low -/
def Obligations.DmuxExecutes : Prop :=
  (∀ inp sel, dmuxGate inp sel = ⟨andGate inp (notGate sel), andGate inp sel⟩) ∧
  (∀ s : State, exec .dmux s = .next (s.withOutputs (.dmux
    (if s.inputs.signal.sel = .low then ⟨s.inputs.signal.inp, .low⟩ else ⟨.low, s.inputs.signal.inp⟩))))

/-- The corner cases that the spec infers from the truth tables of the gates ("derived: from the truth table") -/
def Obligations.GateCornerCases : Prop :=
  (∀ a, andGate a a = a) ∧ (∀ a b, andGate a b = andGate b a) ∧
  (∀ a, orGate a .low = a ∧ orGate .low a = a) ∧ (∀ a b, orGate a b = orGate b a) ∧
  (∀ a, xorGate a a = .low ∧ xorGate a .low = a ∧ xorGate a .high = notGate a) ∧
  (∀ a b, xorGate a b = xorGate b a) ∧
  (∀ a b b', muxGate a b .low = muxGate a b' .low) ∧ (∀ a a' b, muxGate a b .high = muxGate a' b .high) ∧
  (∀ a sel, muxGate a a sel = a) ∧ (∀ a sel, muxGate a (notGate a) sel = xorGate a sel) ∧
  (∀ sel, dmuxGate .low sel = ⟨.low, .low⟩) ∧
  (∀ inp sel, ¬((dmuxGate inp sel).outA = .high ∧ (dmuxGate inp sel).outB = .high)) ∧
  (∀ inp sel, orGate (dmuxGate inp sel).outA (dmuxGate inp sel).outB = inp) ∧
  ∀ inp sel, muxGate (dmuxGate inp sel).outA (dmuxGate inp sel).outB sel = inp

/-- A lift applies its gate at every index independently and in order -/
def Obligations.LiftsActElementwise : Prop :=
  (∀ (N : Width) (a b : Bus N) (sel : Signal) (i : Fin N.n),
    (notN a).get i = notGate (a.get i) ∧ (andN a b).get i = andGate (a.get i) (b.get i) ∧
    (orN a b).get i = orGate (a.get i) (b.get i) ∧ (muxN a b sel).get i = muxGate (a.get i) (b.get i) sel) ∧
  ∀ (a b : Bus ⟨1, by decide⟩) (sel : Signal),
    (notN a).wires = [notGate a.msb] ∧ (andN a b).wires = [andGate a.msb b.msb] ∧
    (orN a b).wires = [orGate a.msb b.msb] ∧ (muxN a b sel).wires = [muxGate a.msb b.msb sel]

/-- not_n complements every element; its value is 2^N - 1 - val and its signed value is -sval - 1 -/
def Obligations.NotNExecutes : Prop :=
  (∀ s : State, ∃ out : Bus s.config.width, exec .notN s = .next (s.withOutputs (.bus out)) ∧
    (∀ i, out.get i = notGate (s.inputs.bus.bus.get i)) ∧
    out.val = 2 ^ s.config.width.n - 1 - s.inputs.bus.bus.val ∧
    out.sval = -s.inputs.bus.bus.sval - 1) ∧
  (∀ (N : Width) (b : Bus N), notN (notN b) = b) ∧
  ∀ N : Width, notN (Bus.allLow N) = Bus.allHigh N ∧ (Bus.allHigh N).sval = -1

/-- and_n is the bitwise AND of its operands -/
def Obligations.AndNExecutes : Prop :=
  (∀ s : State, ∃ out : Bus s.config.width, exec .andN s = .next (s.withOutputs (.bus out)) ∧
    (∀ i, out.get i = andGate (s.inputs.bus.a.get i) (s.inputs.bus.b.get i)) ∧
    out.val = s.inputs.bus.a.val &&& s.inputs.bus.b.val) ∧
  ∀ (N : Width) (a : Bus N),
    andN a (Bus.allLow N) = Bus.allLow N ∧ andN a (Bus.allHigh N) = a ∧ andN a a = a

/-- or_n is the bitwise OR of its operands -/
def Obligations.OrNExecutes : Prop :=
  (∀ s : State, ∃ out : Bus s.config.width, exec .orN s = .next (s.withOutputs (.bus out)) ∧
    (∀ i, out.get i = orGate (s.inputs.bus.a.get i) (s.inputs.bus.b.get i)) ∧
    out.val = s.inputs.bus.a.val ||| s.inputs.bus.b.val) ∧
  ∀ (N : Width) (a : Bus N), orN a (Bus.allLow N) = a ∧ orN a (Bus.allHigh N) = Bus.allHigh N

/-- mux_n switches the whole bus with one selector -/
def Obligations.MuxNExecutes : Prop :=
  (∀ s : State, exec .muxN s = .next (s.withOutputs (.bus
    (if s.inputs.signal.sel = .low then s.inputs.bus.a else s.inputs.bus.b)))) ∧
  ∀ (N : Width) (a b : Bus N) (sel : Signal) (i : Fin N.n), (muxN a b sel).get i = muxGate (a.get i) (b.get i) sel

/-- or_m_way is High iff some element is High, that is iff the value is not 0 -/
def Obligations.OrMWayExecutes : Prop :=
  (∀ s : State, exec .orMWay s = .next (s.withOutputs (.signal
    (if s.inputs.bus.bus.val ≠ 0 then .high else .low)))) ∧
  ∀ (N : Width) (b : Bus N), orMWay b = b.wires.foldl orGate .low ∧
    (orMWay b = .high ↔ ∃ i, b.get i = .high) ∧ orMWay (Bus.allLow N) = .low

/-- and_m_way is High iff all elements are High, that is iff the value is 2^N - 1 -/
def Obligations.AndMWayExecutes : Prop :=
  (∀ s : State, exec .andMWay s = .next (s.withOutputs (.signal
    (if s.inputs.bus.bus.val = 2 ^ s.config.width.n - 1 then .high else .low)))) ∧
  ∀ (N : Width) (b : Bus N), andMWay b = b.wires.foldl andGate .high ∧
    (andMWay b = .high ↔ ∀ i, b.get i = .high) ∧ andMWay (Bus.allHigh N) = .high ∧
    andMWay b = notGate (orMWay (notN b))

/-- mux_4_way_n selects input number sel1 + 2*sel2 -/
def Obligations.Mux4WayNExecutes : Prop :=
  (∀ (N : Width) (a b c d : Bus N) (sel1 sel2 : Signal),
    mux4WayN a b c d sel1 sel2 = muxN (muxN a b sel1) (muxN c d sel1) sel2) ∧
  ∀ s : State, ∃ out : Bus s.config.width, exec .mux4WayN s = .next (s.withOutputs (.bus out)) ∧
    [s.inputs.bus.a, s.inputs.bus.b, s.inputs.bus.c, s.inputs.bus.d][
      s.inputs.signal.sel1.bit + 2 * s.inputs.signal.sel2.bit]? = some out

/-- mux_8_way_n selects input number sel1 + 2*sel2 + 4*sel3 -/
def Obligations.Mux8WayNExecutes : Prop :=
  (∀ (N : Width) (a b c d e f g h : Bus N) (sel1 sel2 sel3 : Signal),
    mux8WayN a b c d e f g h sel1 sel2 sel3 =
      muxN (mux4WayN a b c d sel1 sel2) (mux4WayN e f g h sel1 sel2) sel3) ∧
  ∀ s : State, ∃ out : Bus s.config.width, exec .mux8WayN s = .next (s.withOutputs (.bus out)) ∧
    [s.inputs.bus.a, s.inputs.bus.b, s.inputs.bus.c, s.inputs.bus.d,
      s.inputs.bus.e, s.inputs.bus.f, s.inputs.bus.g, s.inputs.bus.h][
      s.inputs.signal.sel1.bit + 2 * s.inputs.signal.sel2.bit + 4 * s.inputs.signal.sel3.bit]? = some out

/-- dmux_4_way routes its input to the output of its index, under either reading of the index -/
def Obligations.Dmux4WayExecutes : Prop :=
  (∀ inp sel1 sel2, dmux4Way true inp sel1 sel2 =
    ⟨andGate (andGate inp (notGate sel1)) (notGate sel2), andGate (andGate inp sel1) (notGate sel2),
      andGate (andGate inp (notGate sel1)) sel2, andGate (andGate inp sel1) sel2⟩) ∧
  ∀ s : State, ∃ r : Dmux4Out, exec .dmux4Way s = .next (s.withOutputs (.dmux4 r)) ∧
    ∀ k < 4, r.toList[k]? = some (
      if k = (if s.config.dmuxSel1Low then s.inputs.signal.sel1.bit + 2 * s.inputs.signal.sel2.bit
        else 2 * s.inputs.signal.sel1.bit + s.inputs.signal.sel2.bit)
      then s.inputs.signal.inp else .low)

/-- dmux_8_way routes its input to the output of its index, under either reading of the index -/
def Obligations.Dmux8WayExecutes : Prop :=
  (∀ inp sel1 sel2 sel3, ∀ k < 8, (dmux8Way true inp sel1 sel2 sel3).toList[k]? = some
    (andGate (andGate (andGate inp (if k.testBit 0 then sel1 else notGate sel1))
      (if k.testBit 1 then sel2 else notGate sel2)) (if k.testBit 2 then sel3 else notGate sel3))) ∧
  ∀ s : State, ∃ r : Dmux8Out, exec .dmux8Way s = .next (s.withOutputs (.dmux8 r)) ∧
    ∀ k < 8, r.toList[k]? = some (
      if k = (if s.config.dmuxSel1Low
        then s.inputs.signal.sel1.bit + 2 * s.inputs.signal.sel2.bit + 4 * s.inputs.signal.sel3.bit
        else 4 * s.inputs.signal.sel1.bit + 2 * s.inputs.signal.sel2.bit + s.inputs.signal.sel3.bit)
      then s.inputs.signal.inp else .low)

/-- Routing with dmux_4_way and selecting back with mux_4_way_n under the same selectors gives the input back exactly under the default reading -/
def Obligations.RouteAndSelectBack : Prop :=
  let one : Width := ⟨1, by decide⟩
  let route := fun (low : Bool) (inp sel1 sel2 : Signal) =>
    let r := dmux4Way low inp sel1 sel2
    mux4WayN (Bus.fill one r.o0) (Bus.fill one r.o1) (Bus.fill one r.o2) (Bus.fill one r.o3) sel1 sel2
  (∀ inp sel1 sel2, route true inp sel1 sel2 = Bus.fill one inp) ∧
  ∃ inp sel1 sel2, route false inp sel1 sel2 ≠ Bus.fill one inp

/-- half_adder: 2*carry + sum = a + b -/
def Obligations.HalfAdderExecutes : Prop :=
  (∀ a b, halfAdder a b = ⟨xorGate a b, andGate a b⟩) ∧
  (∀ s : State, ∃ r : HalfAdderOut, exec .halfAdder s = .next (s.withOutputs (.halfAdder r)) ∧
    2 * r.carry.bit + r.sum.bit = s.inputs.signal.a.bit + s.inputs.signal.b.bit) ∧
  (∀ a b, ¬((halfAdder a b).sum = .high ∧ (halfAdder a b).carry = .high)) ∧
  ∀ a, halfAdder a .low = ⟨a, .low⟩

/-- full_adder: 2*carry_out + sum = a + b + carry_in -/
def Obligations.FullAdderExecutes : Prop :=
  (∀ a b c, fullAdder a b c =
    ⟨(halfAdder (halfAdder a b).sum c).sum, orGate (halfAdder a b).carry (halfAdder (halfAdder a b).sum c).carry⟩) ∧
  (∀ s : State, ∃ r : FullAdderOut, exec .fullAdder s = .next (s.withOutputs (.fullAdder r)) ∧
    2 * r.carryOut.bit + r.sum.bit =
      s.inputs.signal.a.bit + s.inputs.signal.b.bit + s.inputs.signal.carryIn.bit)

/-- The ripple-carry adder adds modulo 2^N, for every width -/
def Obligations.NAdderExecutes : Prop :=
  (∀ s : State, ∃ out : Bus s.config.width, exec .nAdder s = .next (s.withOutputs (.bus out)) ∧
    out.val = (s.inputs.bus.busA.val + s.inputs.bus.busB.val) % 2 ^ s.config.width.n ∧
    (-(2 ^ (s.config.width.n - 1) : Int) ≤ out.sval ∧ out.sval < 2 ^ (s.config.width.n - 1)) ∧
    (out.sval = s.inputs.bus.busA.sval + s.inputs.bus.busB.sval ∨
      out.sval = s.inputs.bus.busA.sval + s.inputs.bus.busB.sval + 2 ^ s.config.width.n ∨
      out.sval = s.inputs.bus.busA.sval + s.inputs.bus.busB.sval - 2 ^ s.config.width.n)) ∧
  (∀ (N : Width) (a b : Bus N), ∃ c : Nat → Signal, c N.n = .low ∧
    ∀ i : Fin N.n, fullAdder (a.get i) (b.get i) (c (i.val + 1)) = ⟨(nAdder a b).get i, c i.val⟩)

/-- The corner cases that the spec infers for the adders ("derived: from rule R65", "derived: from the function of rule R67") -/
def Obligations.AdderCornerCases : Prop :=
  (∀ a b c, ¬((halfAdder a b).carry = .high ∧ (halfAdder (halfAdder a b).sum c).carry = .high)) ∧
  (∀ a c, fullAdder a .low c = ⟨xorGate a c, andGate a c⟩) ∧
  (∀ (N : Width), nAdder (Bus.allHigh N) (Bus.ofInt N 1) = Bus.allLow N) ∧
  (∀ (N : Width) (a b : Bus N), nAdder a (Bus.allLow N) = a ∧ nAdder a b = nAdder b a) ∧
  ∀ a b : Bus ⟨1, by decide⟩, (nAdder a b).wires = [xorGate a.msb b.msb]

/-- The incrementer adds 1 modulo 2^N, for every width -/
def Obligations.NIncrementerExecutes : Prop :=
  (∀ s : State, ∃ out : Bus s.config.width, exec .nIncrementer s = .next (s.withOutputs (.bus out)) ∧
    out.val = (s.inputs.bus.bus.val + 1) % 2 ^ s.config.width.n) ∧
  (∀ (N : Width) (b : Bus N), ∃ c : Nat → Signal, c N.n = .high ∧
    ∀ i : Fin N.n, fullAdder (b.get i) .low (c (i.val + 1)) = ⟨(nIncrementer b).get i, c i.val⟩) ∧
  (∀ N : Width, nIncrementer (Bus.allHigh N) = Bus.allLow N) ∧
  ∀ b : Bus ⟨1, by decide⟩, (nIncrementer b).wires = [notGate b.msb]

/-- n_incrementer(b) = n_adder(b, bus_N(1)) = bus_N(val_N(b) + 1) -/
def Obligations.IncrementerIsAdditionOfOne : Prop :=
  ∀ (N : Width) (b : Bus N),
    nIncrementer b = nAdder b (Bus.ofInt N 1) ∧ nIncrementer b = Bus.ofInt N ((b.val : Int) + 1)

/-- Each stage of the ALU computes its function from the previous stage's result -/
def Obligations.AluStagesComputeTheirFunctions : Prop :=
  ∀ (N : Width) (x y : Bus N) (zx nx zy ny f no : Signal),
    let w := aluWires x y zx nx zy ny f no
    w.x1 = (if zx = .high then Bus.allLow N else x) ∧
    w.x2 = (if nx = .high then notN w.x1 else w.x1) ∧
    (∀ i, w.x2.get i = xorGate (w.x1.get i) nx) ∧
    (zx = .high → nx = .high → w.x2 = Bus.allHigh N) ∧
    w.y1 = (if zy = .high then Bus.allLow N else y) ∧
    w.y2 = (if ny = .high then notN w.y1 else w.y1) ∧
    w.g = andN w.x2 w.y2 ∧ w.s = nAdder w.x2 w.y2 ∧
    w.o1 = (if f = .high then Bus.ofInt N ((w.x2.val : Int) + w.y2.val) else andN w.x2 w.y2) ∧
    w.out = (if no = .high then notN w.o1 else w.o1)

/-- zr is High iff the result is zero and ng iff it is negative, read from the final result -/
def Obligations.AluFlagsReportTheWrappedResult : Prop :=
  (∀ (N : Width) (x y : Bus N) (zx nx zy ny f no : Signal),
    let r := alu x y zx nx zy ny f no
    (r.zr = .high ↔ ∀ i, r.out.get i = .low) ∧ (r.zr = .high ↔ r.out.val = 0) ∧ (r.zr = .high ↔ r.out.sval = 0) ∧
    r.ng = r.out.get ⟨0, N.pos⟩ ∧ (r.ng = .high ↔ r.out.sval < 0) ∧
    ¬(r.zr = .high ∧ r.ng = .high) ∧ ((r.zr = .low ∧ r.ng = .low) ↔ 0 < r.out.sval)) ∧
  ∀ (x y : Bus ⟨1, by decide⟩) (zx nx zy ny f no : Signal),
    (alu x y zx nx zy ny f no).ng = notGate (alu x y zx nx zy ny f no).zr

/-- The alu cell meets the closed form of R83, for every width and all control signals -/
def Obligations.AluMeetsItsClosedForm : Prop :=
  (∀ s : State, ∃ r : AluOut s.config.width, exec .alu s = .next (s.withOutputs (.alu r)) ∧
    r.out.val = aluClosedForm s.config.width.n s.inputs.bus.x.val s.inputs.bus.y.val s.inputs.control.zx
      s.inputs.control.nx s.inputs.control.zy s.inputs.control.ny s.inputs.control.f s.inputs.control.no ∧
    (r.zr = .high ↔ r.out.val = 0) ∧ (r.ng = .high ↔ 2 ^ (s.config.width.n - 1) ≤ r.out.val)) ∧
  ∀ (N : Width) (x y : Bus N) (zx nx zy ny f no : Signal),
    let x1 := muxN x (Bus.allLow N) zx
    let x2 := muxN x1 (notN x1) nx
    let y1 := muxN y (Bus.allLow N) zy
    let y2 := muxN y1 (notN y1) ny
    let o1 := muxN (andN x2 y2) (nAdder x2 y2) f
    let out := muxN o1 (notN o1) no
    alu x y zx nx zy ny f no = ⟨out, notGate (orMWay out), out.msb⟩

/-- A control-word row is an evaluation of the alu cell with that word on its control inputs -/
def Obligations.ControlWordIsTheAluUnderThatWord : Prop :=
  ∀ (i : Instr) (s : State),
    (encode i = .word [s.inputs.control.zx, s.inputs.control.nx, s.inputs.control.zy, s.inputs.control.ny,
      s.inputs.control.f, s.inputs.control.no] → exec i s = exec .alu s) ∧
    (isControlWord i → ∀ c : ControlPorts, ∃ o : Outputs s.config.width,
      exec i s = .next (s.withOutputs o) ∧
      exec i { s with inputs := { s.inputs with control := c } } =
        .next { config := s.config, request := s.request, inputs := { s.inputs with control := c }, outputs := some o })

/-- With zx High no output depends on x, and with zy High none depends on y -/
def Obligations.ZeroedOperandIsIgnored : Prop :=
  (∀ (N : Width) (x x' y : Bus N) (nx zy ny f no : Signal),
    alu x y .high nx zy ny f no = alu x' y .high nx zy ny f no) ∧
  ∀ (N : Width) (x y y' : Bus N) (zx nx ny f no : Signal),
    alu x y zx nx .high ny f no = alu x y' zx nx .high ny f no

/-- Only an ALU evaluation has the outputs zr and ng, and they follow from that evaluation's out alone -/
def Obligations.FlagsComeFromTheAluAlone : Prop :=
  ∀ (i : Instr) (s : State), ∃ o : Outputs s.config.width, exec i s = .next (s.withOutputs o) ∧
    (o.zr?.isSome ↔ i = .alu ∨ isControlWord i) ∧ (o.ng?.isSome ↔ i = .alu ∨ isControlWord i) ∧
    ∀ r, o = .alu r → r.zr = notGate (orMWay r.out) ∧ r.ng = r.out.msb

/-- The words that compute the constant 0: the rows that the spec infers ("derived: from rules R76 to R80"); which word is called canonical is the
spec's choice (D18, notes/assumptions/6.md) -/
def Obligations.WordsComputingZero : Prop :=
  WordComputes .alu001000 8 (fun _ x => x) (fun _ _ => 0)
    (fun _ _ _ => 0) (fun _ _ _ => 0) ∧
  WordComputes .alu011000 24 (fun _ x => ~~~x) (fun _ _ => 0)
    (fun _ _ _ => 0) (fun _ _ _ => 0) ∧
  WordComputes .alu100000 32 (fun _ _ => 0) (fun _ y => y)
    (fun _ _ _ => 0) (fun _ _ _ => 0) ∧
  WordComputes .alu100100 36 (fun _ _ => 0) (fun _ y => ~~~y)
    (fun _ _ _ => 0) (fun _ _ _ => 0) ∧
  WordComputes .alu101000 40 (fun _ _ => 0) (fun _ _ => 0)
    (fun _ _ _ => 0) (fun _ _ _ => 0) ∧
  WordComputes .alu101010 42 (fun _ _ => 0) (fun _ _ => 0)
    (fun _ _ _ => 0) (fun _ _ _ => 0) ∧
  AluFunction.canonicalWord .zero = some .alu101010 ∧
  WordComputes .alu101100 44 (fun _ _ => 0) (fun _ _ => -1)
    (fun _ _ _ => 0) (fun _ _ _ => 0) ∧
  WordComputes .alu101111 47 (fun _ _ => 0) (fun _ _ => -1)
    (fun _ _ _ => -1) (fun _ _ _ => 0) ∧
  WordComputes .alu111000 56 (fun _ _ => -1) (fun _ _ => 0)
    (fun _ _ _ => 0) (fun _ _ _ => 0) ∧
  WordComputes .alu111011 59 (fun _ _ => -1) (fun _ _ => 0)
    (fun _ _ _ => -1) (fun _ _ _ => 0) ∧
  WordComputes .alu111101 61 (fun _ _ => -1) (fun _ _ => -1)
    (fun _ _ _ => -1) (fun _ _ _ => 0)

/-- The words that compute the constant -1: the rows that the spec infers ("derived: from rules R76 to R80"); which word is called canonical is the
spec's choice (D18, notes/assumptions/6.md) -/
def Obligations.WordsComputingMinusOne : Prop :=
  WordComputes .alu001001 9 (fun _ x => x) (fun _ _ => 0)
    (fun _ _ _ => 0) (fun _ _ _ => -1) ∧
  WordComputes .alu011001 25 (fun _ x => ~~~x) (fun _ _ => 0)
    (fun _ _ _ => 0) (fun _ _ _ => -1) ∧
  WordComputes .alu100001 33 (fun _ _ => 0) (fun _ y => y)
    (fun _ _ _ => 0) (fun _ _ _ => -1) ∧
  WordComputes .alu100101 37 (fun _ _ => 0) (fun _ y => ~~~y)
    (fun _ _ _ => 0) (fun _ _ _ => -1) ∧
  WordComputes .alu101001 41 (fun _ _ => 0) (fun _ _ => 0)
    (fun _ _ _ => 0) (fun _ _ _ => -1) ∧
  WordComputes .alu101011 43 (fun _ _ => 0) (fun _ _ => 0)
    (fun _ _ _ => 0) (fun _ _ _ => -1) ∧
  WordComputes .alu101101 45 (fun _ _ => 0) (fun _ _ => -1)
    (fun _ _ _ => 0) (fun _ _ _ => -1) ∧
  WordComputes .alu101110 46 (fun _ _ => 0) (fun _ _ => -1)
    (fun _ _ _ => -1) (fun _ _ _ => -1) ∧
  WordComputes .alu111001 57 (fun _ _ => -1) (fun _ _ => 0)
    (fun _ _ _ => 0) (fun _ _ _ => -1) ∧
  WordComputes .alu111010 58 (fun _ _ => -1) (fun _ _ => 0)
    (fun _ _ _ => -1) (fun _ _ _ => -1) ∧
  AluFunction.canonicalWord .minusOne = some .alu111010 ∧
  WordComputes .alu111100 60 (fun _ _ => -1) (fun _ _ => -1)
    (fun _ _ _ => -1) (fun _ _ _ => -1)

/-- The words that compute x and !x: the rows that the spec infers ("derived: from rules R76 to R80"); which word is called canonical is the
spec's choice (D18, notes/assumptions/6.md) -/
def Obligations.WordsOfX : Prop :=
  WordComputes .alu001010 10 (fun _ x => x) (fun _ _ => 0)
    (fun _ x _ => x) (fun _ x _ => x) ∧
  WordComputes .alu001011 11 (fun _ x => x) (fun _ _ => 0)
    (fun _ x _ => x) (fun _ x _ => ~~~x) ∧
  WordComputes .alu001100 12 (fun _ x => x) (fun _ _ => -1)
    (fun _ x _ => x) (fun _ x _ => x) ∧
  AluFunction.canonicalWord .x = some .alu001100 ∧
  WordComputes .alu001101 13 (fun _ x => x) (fun _ _ => -1)
    (fun _ x _ => x) (fun _ x _ => ~~~x) ∧
  AluFunction.canonicalWord .notX = some .alu001101 ∧
  WordComputes .alu011010 26 (fun _ x => ~~~x) (fun _ _ => 0)
    (fun _ x _ => ~~~x) (fun _ x _ => ~~~x) ∧
  WordComputes .alu011011 27 (fun _ x => ~~~x) (fun _ _ => 0)
    (fun _ x _ => ~~~x) (fun _ x _ => x) ∧
  WordComputes .alu011100 28 (fun _ x => ~~~x) (fun _ _ => -1)
    (fun _ x _ => ~~~x) (fun _ x _ => ~~~x) ∧
  WordComputes .alu011101 29 (fun _ x => ~~~x) (fun _ _ => -1)
    (fun _ x _ => ~~~x) (fun _ x _ => x)

/-- The words that compute y and !y: the rows that the spec infers ("derived: from rules R76 to R80"); which word is called canonical is the
spec's choice (D18, notes/assumptions/6.md) -/
def Obligations.WordsOfY : Prop :=
  WordComputes .alu100010 34 (fun _ _ => 0) (fun _ y => y)
    (fun _ _ y => y) (fun _ _ y => y) ∧
  WordComputes .alu100011 35 (fun _ _ => 0) (fun _ y => y)
    (fun _ _ y => y) (fun _ _ y => ~~~y) ∧
  WordComputes .alu100110 38 (fun _ _ => 0) (fun _ y => ~~~y)
    (fun _ _ y => ~~~y) (fun _ _ y => ~~~y) ∧
  WordComputes .alu100111 39 (fun _ _ => 0) (fun _ y => ~~~y)
    (fun _ _ y => ~~~y) (fun _ _ y => y) ∧
  WordComputes .alu110000 48 (fun _ _ => -1) (fun _ y => y)
    (fun _ _ y => y) (fun _ _ y => y) ∧
  AluFunction.canonicalWord .y = some .alu110000 ∧
  WordComputes .alu110001 49 (fun _ _ => -1) (fun _ y => y)
    (fun _ _ y => y) (fun _ _ y => ~~~y) ∧
  AluFunction.canonicalWord .notY = some .alu110001 ∧
  WordComputes .alu110100 52 (fun _ _ => -1) (fun _ y => ~~~y)
    (fun _ _ y => ~~~y) (fun _ _ y => ~~~y) ∧
  WordComputes .alu110101 53 (fun _ _ => -1) (fun _ y => ~~~y)
    (fun _ _ y => ~~~y) (fun _ _ y => y)

/-- The words that compute the eight bitwise functions of two operands: the rows that the spec infers ("derived: from rules R76 to R80"); that no other
word computes them is stated from width 2 on (notes/assumptions/8.md) -/
def Obligations.BitwiseWords : Prop :=
  WordComputes .alu000000 0 (fun _ x => x) (fun _ y => y)
    (fun _ x y => x &&& y) (fun _ x y => x &&& y) ∧
  AluFunction.canonicalWord .xAndY = some .alu000000 ∧
  NoOtherWord .alu000000 ∧
  WordComputes .alu000001 1 (fun _ x => x) (fun _ y => y)
    (fun _ x y => x &&& y) (fun _ x y => ~~~(x &&& y)) ∧
  NoOtherWord .alu000001 ∧
  WordComputes .alu000100 4 (fun _ x => x) (fun _ y => ~~~y)
    (fun _ x y => x &&& ~~~y) (fun _ x y => x &&& ~~~y) ∧
  NoOtherWord .alu000100 ∧
  WordComputes .alu000101 5 (fun _ x => x) (fun _ y => ~~~y)
    (fun _ x y => x &&& ~~~y) (fun _ x y => ~~~x ||| y) ∧
  NoOtherWord .alu000101 ∧
  WordComputes .alu010000 16 (fun _ x => ~~~x) (fun _ y => y)
    (fun _ x y => ~~~x &&& y) (fun _ x y => ~~~x &&& y) ∧
  NoOtherWord .alu010000 ∧
  WordComputes .alu010001 17 (fun _ x => ~~~x) (fun _ y => y)
    (fun _ x y => ~~~x &&& y) (fun _ x y => x ||| ~~~y) ∧
  NoOtherWord .alu010001 ∧
  WordComputes .alu010100 20 (fun _ x => ~~~x) (fun _ y => ~~~y)
    (fun _ x y => ~~~(x ||| y)) (fun _ x y => ~~~(x ||| y)) ∧
  NoOtherWord .alu010100 ∧
  WordComputes .alu010101 21 (fun _ x => ~~~x) (fun _ y => ~~~y)
    (fun _ x y => ~~~(x ||| y)) (fun _ x y => x ||| y) ∧
  AluFunction.canonicalWord .xOrY = some .alu010101 ∧
  NoOtherWord .alu010101

/-- The words that compute the constants 1 and -2 and the arithmetic functions of one operand: the rows that the spec infers ("derived: from rules R76 to R80"); that no other
word computes them is stated from width 2 on (notes/assumptions/8.md) -/
def Obligations.OneOperandArithmeticWords : Prop :=
  WordComputes .alu001110 14 (fun _ x => x) (fun _ _ => -1)
    (fun _ x _ => x - 1) (fun _ x _ => x - 1) ∧
  AluFunction.canonicalWord .xMinus1 = some .alu001110 ∧
  NoOtherWord .alu001110 ∧
  WordComputes .alu001111 15 (fun _ x => x) (fun _ _ => -1)
    (fun _ x _ => x - 1) (fun _ x _ => -x) ∧
  AluFunction.canonicalWord .negX = some .alu001111 ∧
  NoOtherWord .alu001111 ∧
  WordComputes .alu011110 30 (fun _ x => ~~~x) (fun _ _ => -1)
    (fun _ x _ => -x - 2) (fun _ x _ => -x - 2) ∧
  NoOtherWord .alu011110 ∧
  WordComputes .alu011111 31 (fun _ x => ~~~x) (fun _ _ => -1)
    (fun _ x _ => -x - 2) (fun _ x _ => x + 1) ∧
  AluFunction.canonicalWord .xPlus1 = some .alu011111 ∧
  NoOtherWord .alu011111 ∧
  WordComputes .alu110010 50 (fun _ _ => -1) (fun _ y => y)
    (fun _ _ y => y - 1) (fun _ _ y => y - 1) ∧
  AluFunction.canonicalWord .yMinus1 = some .alu110010 ∧
  NoOtherWord .alu110010 ∧
  WordComputes .alu110011 51 (fun _ _ => -1) (fun _ y => y)
    (fun _ _ y => y - 1) (fun _ _ y => -y) ∧
  AluFunction.canonicalWord .negY = some .alu110011 ∧
  NoOtherWord .alu110011 ∧
  WordComputes .alu110110 54 (fun _ _ => -1) (fun _ y => ~~~y)
    (fun _ _ y => -y - 2) (fun _ _ y => -y - 2) ∧
  NoOtherWord .alu110110 ∧
  WordComputes .alu110111 55 (fun _ _ => -1) (fun _ y => ~~~y)
    (fun _ _ y => -y - 2) (fun _ _ y => y + 1) ∧
  AluFunction.canonicalWord .yPlus1 = some .alu110111 ∧
  NoOtherWord .alu110111 ∧
  WordComputes .alu111110 62 (fun _ _ => -1) (fun _ _ => -1)
    (fun _ _ _ => -2) (fun _ _ _ => -2) ∧
  NoOtherWord .alu111110 ∧
  WordComputes .alu111111 63 (fun _ _ => -1) (fun _ _ => -1)
    (fun _ _ _ => -2) (fun _ _ _ => 1) ∧
  AluFunction.canonicalWord .one = some .alu111111 ∧
  NoOtherWord .alu111111

/-- The words that compute the arithmetic functions of two operands: the rows that the spec infers ("derived: from rules R76 to R80"); that no other
word computes them is stated from width 2 on (notes/assumptions/8.md) -/
def Obligations.TwoOperandArithmeticWords : Prop :=
  WordComputes .alu000010 2 (fun _ x => x) (fun _ y => y)
    (fun _ x y => x + y) (fun _ x y => x + y) ∧
  AluFunction.canonicalWord .xPlusY = some .alu000010 ∧
  NoOtherWord .alu000010 ∧
  WordComputes .alu000011 3 (fun _ x => x) (fun _ y => y)
    (fun _ x y => x + y) (fun _ x y => -x - y - 1) ∧
  NoOtherWord .alu000011 ∧
  WordComputes .alu000110 6 (fun _ x => x) (fun _ y => ~~~y)
    (fun _ x y => x - y - 1) (fun _ x y => x - y - 1) ∧
  NoOtherWord .alu000110 ∧
  WordComputes .alu000111 7 (fun _ x => x) (fun _ y => ~~~y)
    (fun _ x y => x - y - 1) (fun _ x y => y - x) ∧
  AluFunction.canonicalWord .yMinusX = some .alu000111 ∧
  NoOtherWord .alu000111 ∧
  WordComputes .alu010010 18 (fun _ x => ~~~x) (fun _ y => y)
    (fun _ x y => y - x - 1) (fun _ x y => y - x - 1) ∧
  NoOtherWord .alu010010 ∧
  WordComputes .alu010011 19 (fun _ x => ~~~x) (fun _ y => y)
    (fun _ x y => y - x - 1) (fun _ x y => x - y) ∧
  AluFunction.canonicalWord .xMinusY = some .alu010011 ∧
  NoOtherWord .alu010011 ∧
  WordComputes .alu010110 22 (fun _ x => ~~~x) (fun _ y => ~~~y)
    (fun _ x y => -x - y - 2) (fun _ x y => -x - y - 2) ∧
  NoOtherWord .alu010110 ∧
  WordComputes .alu010111 23 (fun _ x => ~~~x) (fun _ y => ~~~y)
    (fun _ x y => -x - y - 2) (fun _ x y => x + y + 1) ∧
  NoOtherWord .alu010111

/-- The 64 words compute 32 functions, distinct from width 2 on (log entry 8), the canonical words among them (the spec's labels, D18) -/
def Obligations.ThirtyTwoFunctions : Prop :=
  (∀ (i : Instr) (f : AluFunction), aluFunctionOf i = some f → ∀ s : State, exec i s =
    .next (s.withOutputs (.alu (aluResult (f.apply s.inputs.bus.x.bv s.inputs.bus.y.bv))))) ∧
  (∀ i : Instr, (aluFunctionOf i).isSome ↔ isControlWord i) ∧
  (∀ f g : AluFunction, f ≠ g → ∀ n, 2 ≤ n → ∃ x y : BitVec n, f.apply x y ≠ g.apply x y) ∧
  (∀ f : AluFunction, ((List.range 64).filter
      (fun w => (decodeTableWord 8 w).bind aluFunctionOf = some f)).length =
    if f = .zero ∨ f = .minusOne then 11
    else if f = .x ∨ f = .notX ∨ f = .y ∨ f = .notY then 4 else 1) ∧
  ∀ (f : AluFunction) (i : Instr), f.canonicalWord = some i → aluFunctionOf i = some f

/-- The zero flag of x-y is High iff x = y -/
def Obligations.ZeroFlagOfDifferenceIsEquality : Prop :=
  ∀ s : State, ∃ r : AluOut s.config.width, exec .alu010011 s = .next (s.withOutputs (.alu r)) ∧
    (r.zr = .high ↔ s.inputs.bus.x = s.inputs.bus.y)

/-- int_to_bus16 gives the two's-complement pattern in range and refuses outside it -/
def Obligations.IntToBus16EncodesOrRefuses : Prop :=
  (∀ v : Int, -32768 ≤ v → v ≤ 32767 → ∃ b : Bus width16, intToBus16 v = .ok b ∧
    (∀ i : Fin 16, b.get i = signalOf ((v % 65536).toNat.testBit (15 - i.val) = true)) ∧
    b.sval = v ∧ (b.msb = .high ↔ v < 0)) ∧
  ∀ v : Int, v < -32768 ∨ 32767 < v → intToBus16 v = .error .integerOutOfRange

/-- bus16_to_int recovers the signed value by complementing, incrementing and negating -/
def Obligations.Bus16ToIntIsSignedValue : Prop :=
  ∀ b : Bus width16, bus16ToInt b = b.sval ∧ (-32768 ≤ bus16ToInt b ∧ bus16ToInt b ≤ 32767) ∧
    (b.msb = .high → bus16ToInt b = -((nIncrementer (notN b)).val : Int)) ∧
    (b.msb = .low → bus16ToInt b = (b.val : Int))

/-- The codec round-trips in both directions (the direction from buses is the spec's inference: "derived: from rules R171 and R172") -/
def Obligations.CodecRoundTrips : Prop :=
  (∀ v : Int, -32768 ≤ v → v ≤ 32767 → ∃ b, intToBus16 v = .ok b ∧ bus16ToInt b = v) ∧
  (∀ b : Bus width16, intToBus16 (bus16ToInt b) = .ok b) ∧
  ∀ b : Bus width16, b.msb = .high → nIncrementer (notN b) ≠ Bus.allLow width16

/-- Wires are accepted by a bus port exactly when they are as many as its width; a mismatch is refused and drives nothing -/
def Obligations.WidthMismatchIsRefusedWhereBusesAreBuilt : Prop :=
  (∀ (s : State) (port : BusPort) (wires : List Signal),
    (∀ h : wires.length = s.config.width.n, s.driveWires port wires = .next
      { config := s.config, request := s.request, outputs := s.outputs,
        inputs := { s.inputs with bus := s.inputs.bus.set port ⟨wires, h⟩ } }) ∧
    (wires.length ≠ s.config.width.n → s.driveWires port wires = .refused .widthMismatch)) ∧
  (∀ (n : Nat) (low : Bool), (place n low = .refused .widthMismatch ↔ n = 0) ∧
    (n ≠ 0 → ∃ s : State, place n low = .next s ∧ s.config.width.n = n ∧ s.config.dmuxSel1Low = low)) ∧
  ∀ (N : Width) (b : Bus N), (N.n = 16 → ∃ v, decodeBus b = .ok v ∧ v = b.sval) ∧
    (N.n ≠ 16 → decodeBus b = .error .widthMismatch)

/-- The netlists from which the cells are evaluated have the NAND counts of the timing table -/
def Obligations.NandCountsOfTheTable : Prop :=
  (∀ a b c : Signal,
    (nandGate a b = (nandNet a b).run ∧ (nandNet a b).nands = 1) ∧
    (notGate a = (notNet a).run ∧ (notNet a).nands = 1) ∧
    (andGate a b = (andNet a b).run ∧ (andNet a b).nands = 3) ∧
    (orGate a b = (orNet a b).run ∧ (orNet a b).nands = 3) ∧
    (xorGate a b = (xorNet a b).run ∧ (xorNet a b).nands = 5) ∧
    (muxGate a b c = (muxNet a b c).run ∧ (muxNet a b c).nands = 4) ∧
    (((dmuxGate a b).outA, (dmuxGate a b).outB) = (dmuxNet a b).run ∧ (dmuxNet a b).nands = 7) ∧
    (((halfAdder a b).sum, (halfAdder a b).carry) = (halfAdderNet a b).run ∧ (halfAdderNet a b).nands = 8) ∧
    ((fullAdder a b c).sum, (fullAdder a b c).carryOut) = (fullAdderNet a b c).run ∧
    (fullAdderNet a b c).nands = 19) ∧
  (∀ (low : Bool) (inp sel1 sel2 sel3 : Signal),
    (let r := dmux4Way low inp sel1 sel2
    (dmux4WayNet low inp sel1 sel2).run = (r.o0, r.o1, r.o2, r.o3) ∧
      (dmux4WayNet low inp sel1 sel2).nands = 26) ∧
    let r := dmux8Way low inp sel1 sel2 sel3
    (dmux8WayNet low inp sel1 sel2 sel3).run = (r.o0, r.o1, r.o2, r.o3, r.o4, r.o5, r.o6, r.o7) ∧
      (dmux8WayNet low inp sel1 sel2 sel3).nands = 75) ∧
  (∀ (N : Width) (a b c d e f g h : Bus N) (sel1 sel2 sel3 : Signal),
    ((notN a).wires = (notNNet a.wires).run ∧ (notNNet a.wires).nands = N.n) ∧
    ((andN a b).wires = (andNNet a.wires b.wires).run ∧ (andNNet a.wires b.wires).nands = 3 * N.n) ∧
    ((orN a b).wires = (orNNet a.wires b.wires).run ∧ (orNNet a.wires b.wires).nands = 3 * N.n) ∧
    ((muxN a b sel1).wires = (muxNNet a.wires b.wires sel1).run ∧
      (muxNNet a.wires b.wires sel1).nands = 4 * N.n) ∧
    (orMWay a = (orMWayNet a.wires).run ∧ (orMWayNet a.wires).nands = 3 * N.n) ∧
    (andMWay a = (andMWayNet a.wires).run ∧ (andMWayNet a.wires).nands = 3 * N.n) ∧
    ((mux4WayN a b c d sel1 sel2).wires = (mux4WayNNet a.wires b.wires c.wires d.wires sel1 sel2).run ∧
      (mux4WayNNet a.wires b.wires c.wires d.wires sel1 sel2).nands = 12 * N.n) ∧
    ((mux8WayN a b c d e f g h sel1 sel2 sel3).wires =
        (mux8WayNNet a.wires b.wires c.wires d.wires e.wires f.wires g.wires h.wires sel1 sel2 sel3).run ∧
      (mux8WayNNet a.wires b.wires c.wires d.wires e.wires f.wires g.wires h.wires sel1 sel2 sel3).nands =
        28 * N.n) ∧
    ((nAdder a b).wires = (nAdderNet a.wires b.wires).run ∧ (nAdderNet a.wires b.wires).nands = 19 * N.n) ∧
    (nIncrementer a).wires = (nIncrementerNet a.wires).run ∧ (nIncrementerNet a.wires).nands = 19 * N.n) ∧
  ∀ (N : Width) (x y : Bus N) (zx nx zy ny f no : Signal),
    let w := aluWires x y zx nx zy ny f no
    (aluNet x.wires y.wires zx nx zy ny f no).run =
      ⟨w.x1.wires, w.x2.wires, w.y1.wires, w.y2.wires, w.g.wires, w.s.wires, w.o1.wires, w.out.wires, w.zr⟩ ∧
    (aluNet x.wires y.wires zx nx zy ny f no).nands = 52 * N.n + 1 ∧
    alu x y zx nx zy ny f no = ⟨w.out, w.zr, w.ng⟩ ∧ w.ng = w.out.msb
end

