-- ==== Sys2Proof/Laws/Operands.lean ====
section
/-! SUPPORT. Operands: buses and their readings as numbers (spec/00_scope.md R9): a bus is determined by its wires, the
value is below `2^N`, and reading and writing a number are inverse. -/

namespace Sys2Proof

/-- Two buses of one width are equal when their wires are. -/
theorem Bus.ext_wires {N : Width} {a b : Bus N} (h : a.wires = b.wires) : a = b := by
  cases a; cases b; cases h; rfl

/-- Two buses of one width are equal when they agree at every index. -/
theorem Bus.ext_get {N : Width} {a b : Bus N} (h : ∀ i, a.get i = b.get i) : a = b := by
  apply Bus.ext_wires
  apply List.ext_getElem
  · rw [a.width_eq, b.width_eq]
  · intro i h1 _
    simpa [Bus.get] using h ⟨i, a.width_eq ▸ h1⟩

@[simp] theorem Bus.map_get {N : Width} (g : Signal → Signal) (b : Bus N) (i : Fin N.n) :
    (b.map g).get i = g (b.get i) := by
  simp [Bus.map, Bus.get]

@[simp] theorem Bus.zipWith_get {N : Width} (g : Signal → Signal → Signal) (a b : Bus N) (i : Fin N.n) :
    (a.zipWith g b).get i = g (a.get i) (b.get i) := by
  simp [Bus.zipWith, Bus.get]

@[simp] theorem Bus.fill_get (N : Width) (v : Signal) (i : Fin N.n) : (Bus.fill N v).get i = v := by
  simp [Bus.fill, Bus.get]

theorem Signal.bit_le_one (s : Signal) : s.bit ≤ 1 := by
  cases s <;> simp [Signal.bit]

theorem Signal.bit_ofBool (b : Bool) : (Signal.ofBool b).bit = b.toNat := by
  cases b <;> rfl

/-- The number that n signals write is below `2^n`. -/
theorem numberOfSignals_lt (w : List Signal) : numberOfSignals w < 2 ^ w.length := by
  induction w with
  | nil => simp [numberOfSignals]
  | cons s rest ih =>
    cases s <;> simp [numberOfSignals, Signal.bit, Nat.pow_succ] <;> omega

/-- Writing a number on `n` signals and reading it gives it modulo `2^n`. -/
theorem numberOfSignals_signalsOfNumber (n v : Nat) : numberOfSignals (signalsOfNumber n v) = v % 2 ^ n := by
  induction n with
  | zero => simp [signalsOfNumber, numberOfSignals, Nat.mod_one]
  | succ n ih =>
    rw [signalsOfNumber, numberOfSignals, signalsOfNumber_length, ih, Signal.bit_ofBool, Nat.mod_pow_succ, Nat.toNat_testBit]
    ring

/-- Only the low `n` bits of a number are written on `n` signals. -/
theorem signalsOfNumber_mod (n m v : Nat) (h : n ≤ m) : signalsOfNumber n (v % 2 ^ m) = signalsOfNumber n v := by
  induction n with
  | zero => rfl
  | succ n ih =>
    rw [signalsOfNumber, signalsOfNumber, ih (by omega), Nat.testBit_mod_two_pow]
    simp [show n < m by omega]

/-- Reading signals as a number and writing it gives the signals. -/
theorem signalsOfNumber_numberOfSignals (w : List Signal) : signalsOfNumber w.length (numberOfSignals w) = w := by
  induction w with
  | nil => rfl
  | cons s rest ih =>
    have hlt := numberOfSignals_lt rest
    have hmod : numberOfSignals (s :: rest) % 2 ^ rest.length = numberOfSignals rest := by
      rw [numberOfSignals, Nat.add_comm, Nat.add_mul_mod_self_right, Nat.mod_eq_of_lt hlt]
    rw [List.length_cons, signalsOfNumber, ← signalsOfNumber_mod _ rest.length _ le_rfl, hmod, ih]
    congr 1
    rw [numberOfSignals, Nat.testBit_eq_decide_div_mod_eq, Nat.mul_comm, Nat.mul_add_div (Nat.two_pow_pos _),
      Nat.div_eq_of_lt hlt]
    cases s <;> rfl

/-- The value of a width-N bus is below `2^N`. -/
theorem Bus.val_lt {N : Width} (b : Bus N) : b.val < 2 ^ N.n := by
  rw [← b.width_eq]; exact numberOfSignals_lt b.wires

/-- Two buses of one width are equal when their values are. -/
theorem Bus.ext_val {N : Width} {a b : Bus N} (h : a.val = b.val) : a = b := by
  apply Bus.ext_wires
  rw [← signalsOfNumber_numberOfSignals a.wires, ← signalsOfNumber_numberOfSignals b.wires, a.width_eq, b.width_eq]
  exact congrArg _ h

/-- `val_N(bus_N(v)) = v mod 2^N` (R9). -/
theorem Bus.val_ofInt (N : Width) (v : Int) : (Bus.ofInt N v).val = (v % 2 ^ N.n).toNat := by
  have hpos : (0 : Int) < 2 ^ N.n := by positivity
  have hlt : (v % 2 ^ N.n).toNat < 2 ^ N.n := by
    have := Int.emod_lt_of_pos v hpos
    have h2 : ((2 ^ N.n : Nat) : Int) = 2 ^ N.n := by push_cast; rfl
    omega
  rw [Bus.val, Bus.ofInt, numberOfSignals_signalsOfNumber, Nat.mod_eq_of_lt hlt]

/-- `bus_N` of a natural number has that number modulo `2^N` as its value. -/
theorem Bus.val_ofInt_natCast (N : Width) (v : Nat) : (Bus.ofInt N v).val = v % 2 ^ N.n := by
  rw [Bus.val_ofInt]
  have h2 : ((2 ^ N.n : Nat) : Int) = 2 ^ N.n := by push_cast; rfl
  rw [← h2]
  omega

/-- Writing the value of a bus gives the bus. -/
theorem Bus.ofInt_val {N : Width} (b : Bus N) : Bus.ofInt N b.val = b :=
  Bus.ext_val (by rw [Bus.val_ofInt_natCast, Nat.mod_eq_of_lt b.val_lt])

/-- The bit vector of a bus is its value. -/
@[simp] theorem Bus.bv_toNat {N : Width} (b : Bus N) : b.bv.toNat = b.val := by
  simp [Bus.bv, Nat.mod_eq_of_lt b.val_lt]

@[simp] theorem Bus.bv_ofBV {N : Width} (v : BitVec N.n) : (Bus.ofBV v).bv = v := by
  apply BitVec.eq_of_toNat_eq
  rw [Bus.bv_toNat, Bus.ofBV, Bus.val_ofInt_natCast, Nat.mod_eq_of_lt v.isLt]

@[simp] theorem Bus.ofBV_bv {N : Width} (b : Bus N) : Bus.ofBV b.bv = b := by
  rw [Bus.ofBV, Bus.bv_toNat, Bus.ofInt_val]

/-- Twice the weight of the sign bit is `2^N`. -/
theorem Width.two_pow_eq (N : Width) : 2 ^ N.n = 2 * 2 ^ (N.n - 1) := by
  rw [← Nat.pow_succ', Nat.succ_eq_add_one, Nat.sub_add_cancel N.pos]

/-- The sign bit is set exactly when the value is at least `2^(N-1)` (R9). -/
theorem Bus.msb_bit {N : Width} (b : Bus N) : b.msb.bit = if 2 ^ (N.n - 1) ≤ b.val then 1 else 0 := by
  obtain ⟨w, hw⟩ := b
  match w, hw with
  | [], hw => exact absurd hw (by simpa using N.pos.ne)
  | s :: rest, hw =>
    have hlt := numberOfSignals_lt rest
    have hn : N.n - 1 = rest.length := by simp at hw; omega
    simp only [Bus.msb, Bus.get, Bus.val, hn, numberOfSignals]
    cases s <;> simp [Signal.bit, hlt]

/-- The signed value, by the range of the unsigned one (R9). -/
theorem Bus.sval_eq {N : Width} (b : Bus N) :
    b.sval = if 2 ^ (N.n - 1) ≤ b.val then (b.val : Int) - ((2 ^ N.n : Nat) : Int) else b.val := by
  rw [Bus.sval, Bus.msb_bit]
  split <;> simp

/-- The value of a bus with the same signal on every wire. -/
theorem Bus.val_fill (N : Width) (v : Signal) : (Bus.fill N v).val = v.bit * (2 ^ N.n - 1) := by
  have key : ∀ n, numberOfSignals (List.replicate n v) = v.bit * (2 ^ n - 1) := by
    intro n
    induction n with
    | zero => simp [numberOfSignals]
    | succ n ih =>
      have := Nat.two_pow_pos n
      rw [List.replicate_succ, numberOfSignals, ih, List.length_replicate, ← Nat.mul_add, Nat.pow_succ]
      congr 1
      omega
  exact key N.n

end Sys2Proof
end

