-- ==== Sys2Proof/Laws/Arithmetic.lean ====
section
/-! SUPPORT. Arithmetic: the unrolling of the ripple and the sum it computes, and the projections of the ALU onto its stages. -/

namespace Sys2Proof.Machine

@[simp] theorem ripple_nil (cN : Signal) : ripple cN [] = ⟨[], cN⟩ := rfl

/-- The most significant position of a ripple is one full adder on the carry of the ripple below it (R67, R70). -/
@[simp] theorem ripple_cons (cN a b : Signal) (rest : List (Signal × Signal)) :
    ripple cN ((a, b) :: rest) =
      ⟨(fullAdder a b (ripple cN rest).carry).sum :: (ripple cN rest).sum,
        (fullAdder a b (ripple cN rest).carry).carryOut⟩ := by
  simp [ripple, rippleNet, fullAdder]

/-- A ripple adds: its sum wires and its last carry together write the sum of the operands and the carry in. -/
theorem ripple_total (cN : Signal) : ∀ u v : List Signal, u.length = v.length →
    (ripple cN (u.zip v)).carry.bit * 2 ^ u.length + numberOfSignals (ripple cN (u.zip v)).sum =
      numberOfSignals u + numberOfSignals v + cN.bit
  | [], [], _ => by simp [numberOfSignals]
  | a :: u, b :: v, h => by
    have h : u.length = v.length := by simpa using h
    have ih := ripple_total cN u v h
    have here : ∀ c, 2 * (fullAdder a b c).carryOut.bit + (fullAdder a b c).sum.bit = a.bit + b.bit + c.bit := by
      intro c; cases a <;> cases b <;> cases c <;> rfl
    have here := congrArg (· * 2 ^ v.length) (here (ripple cN (u.zip v)).carry)
    simp only [List.zip_cons_cons, ripple_cons, numberOfSignals, List.length_cons, ripple_sum_length,
      List.length_zip, h, min_self, Nat.pow_succ] at *
    nlinarith [here, ih]

/-- The sum wires of a ripple write the sum with the carry in, modulo `2^N` (R67, R68, R70). -/
theorem ripple_val (cN : Signal) (u v : List Signal) (h : u.length = v.length) :
    numberOfSignals (ripple cN (u.zip v)).sum = (numberOfSignals u + numberOfSignals v + cN.bit) % 2 ^ u.length := by
  have hlt := numberOfSignals_lt (ripple cN (u.zip v)).sum
  rw [ripple_sum_length, List.length_zip, ← h, min_self] at hlt
  rw [← ripple_total cN u v h, Nat.add_comm, Nat.add_mul_mod_self_right, Nat.mod_eq_of_lt hlt]

/-- The adder is the ripple from carry-in `Low` (R67). -/
theorem nAdder_wires {N : Width} (a b : Bus N) : (nAdder a b).wires = (ripple .low (a.wires.zip b.wires)).sum := by
  simp [nAdder, nAdderNet, ripple]

/-- The incrementer is the ripple from carry-in `High` with a second operand of all `Low` (R68). -/
theorem nIncrementer_wires {N : Width} (b : Bus N) :
    (nIncrementer b).wires = (ripple .high (b.wires.zip (Bus.allLow N).wires)).sum := by
  simp [nIncrementer, nIncrementerNet, ripple, Bus.allLow, Bus.fill, b.width_eq]

section Alu
variable {N : Width} (x y : Bus N) (zx nx zy ny f no : Signal)

theorem alu_out : (alu x y zx nx zy ny f no).out = (aluWires x y zx nx zy ny f no).out := rfl

/-- Both flags read the final result (R81, R82). -/
theorem alu_zr : (alu x y zx nx zy ny f no).zr = notGate (orMWay (alu x y zx nx zy ny f no).out) := by
  simp [alu, aluWires, aluNet, zeroFlagNet, notGate, orMWay]

theorem alu_ng : (alu x y zx nx zy ny f no).ng = (alu x y zx nx zy ny f no).out.msb := rfl

theorem aluWires_x1 : (aluWires x y zx nx zy ny f no).x1 = muxN x (Bus.allLow N) zx := by
  apply Bus.ext_wires
  simp [aluWires, aluNet, zeroStageNet, muxN, Bus.allLow, Bus.fill, x.width_eq]

theorem aluWires_x2 : (aluWires x y zx nx zy ny f no).x2 =
    muxN (aluWires x y zx nx zy ny f no).x1 (notN (aluWires x y zx nx zy ny f no).x1) nx := by
  apply Bus.ext_wires
  simp [aluWires, aluNet, negateStageNet, muxN, notN]

theorem aluWires_y1 : (aluWires x y zx nx zy ny f no).y1 = muxN y (Bus.allLow N) zy := by
  apply Bus.ext_wires
  simp [aluWires, aluNet, zeroStageNet, muxN, Bus.allLow, Bus.fill, y.width_eq]

theorem aluWires_y2 : (aluWires x y zx nx zy ny f no).y2 =
    muxN (aluWires x y zx nx zy ny f no).y1 (notN (aluWires x y zx nx zy ny f no).y1) ny := by
  apply Bus.ext_wires
  simp [aluWires, aluNet, negateStageNet, muxN, notN]

theorem aluWires_g : (aluWires x y zx nx zy ny f no).g =
    andN (aluWires x y zx nx zy ny f no).x2 (aluWires x y zx nx zy ny f no).y2 := by
  apply Bus.ext_wires
  simp [aluWires, aluNet, andN]

theorem aluWires_s : (aluWires x y zx nx zy ny f no).s =
    nAdder (aluWires x y zx nx zy ny f no).x2 (aluWires x y zx nx zy ny f no).y2 := by
  apply Bus.ext_wires
  simp [aluWires, aluNet, nAdder]

theorem aluWires_o1 : (aluWires x y zx nx zy ny f no).o1 =
    muxN (aluWires x y zx nx zy ny f no).g (aluWires x y zx nx zy ny f no).s f := by
  apply Bus.ext_wires
  simp [aluWires, aluNet, muxN]

theorem aluWires_out : (aluWires x y zx nx zy ny f no).out =
    muxN (aluWires x y zx nx zy ny f no).o1 (notN (aluWires x y zx nx zy ny f no).o1) no := by
  apply Bus.ext_wires
  simp [aluWires, aluNet, negateStageNet, muxN, notN]

end Alu

end Sys2Proof.Machine
end

