-- ==== Sys2Proof/Laws/BusOps.lean ====
section
/-! SUPPORT. BusOps: what the bus operations that other cells are built from can do, said once. -/

namespace Sys2Proof.Machine

/-- `not_n` is NOT at every index (R51). -/
theorem notN_eq_map {N : Width} (bus : Bus N) : notN bus = bus.map notGate := Bus.ext_wires (mapNet_run _ _)

/-- `and_n` is AND at every index (R52). -/
theorem andN_eq_zipWith {N : Width} (a b : Bus N) : andN a b = a.zipWith andGate b := Bus.ext_wires (zipNet_run _ _ _)

/-- `or_n` is OR at every index (R53). -/
theorem orN_eq_zipWith {N : Width} (a b : Bus N) : orN a b = a.zipWith orGate b := Bus.ext_wires (zipNet_run _ _ _)

/-- `mux_n` is MUX at every index, with one selector (R54). -/
theorem muxN_eq_zipWith {N : Width} (a b : Bus N) (sel : Signal) :
    muxN a b sel = a.zipWith (fun ai bi => muxGate ai bi sel) b := Bus.ext_wires (zipNet_run _ _ _)

/-- `mux_n` gives one of its operands whole (R54). -/
theorem muxN_eq_ite {N : Width} (a b : Bus N) (sel : Signal) : muxN a b sel = if sel = .high then b else a := by
  apply Bus.ext_get
  intro i
  rw [muxN_eq_zipWith, Bus.zipWith_get]
  cases sel <;> cases ha : a.get i <;> cases hb : b.get i <;> simp [ha, hb] <;> rfl

/-- A fold of OR gates is `High` exactly when the seed or some signal is (R55). -/
theorem foldl_orGate_eq_high_iff (w : List Signal) (seed : Signal) :
    w.foldl orGate seed = .high ↔ seed = .high ∨ .high ∈ w := by
  induction w generalizing seed with
  | nil => simp
  | cons s rest ih =>
    have here : orGate seed s = .high ↔ seed = .high ∨ .high = s := by cases seed <;> cases s <;> decide
    rw [List.foldl_cons, ih, here, List.mem_cons, or_assoc]

/-- A fold of AND gates is `High` exactly when the seed and every signal are (R56). -/
theorem foldl_andGate_eq_high_iff (w : List Signal) (seed : Signal) :
    w.foldl andGate seed = .high ↔ seed = .high ∧ .low ∉ w := by
  induction w generalizing seed with
  | nil => simp
  | cons s rest ih =>
    have here : andGate seed s = .high ↔ seed = .high ∧ ¬.low = s := by cases seed <;> cases s <;> decide
    rw [List.foldl_cons, ih, here, List.mem_cons, not_or, and_assoc]

end Sys2Proof.Machine
end

