-- ==== Sys2Proof/Laws/Net.lean ====
section
/-! SUPPORT. Net: counting the NAND gates of netlists (spec/70_reset_and_hazards.md R195): a netlist after another one adds
their counts, and a netlist repeated over a bus multiplies its own. -/

namespace Sys2Proof.Machine

@[simp] theorem Net.nands_done {α : Type} (out : α) : (Net.done out : Net Signal α).nands = 0 := rfl

@[simp] theorem Net.nands_tie {α : Type} (v : Signal) (rest : Signal → Net Signal α) :
    (Net.tie v rest).nands = (rest v).nands := rfl

/-- The gates of a netlist after another one are those of both, the second on the outputs of the first. -/
@[simp] theorem Net.nands_bind {α β : Type} (net : Net Signal α) (next : α → Net Signal β) :
    (net.bind next).nands = net.nands + (next net.run).nands := by
  induction net with
  | done out => simp [Net.bind, Net.run]
  | tie v rest ih => exact ih v
  | nand a b rest ih =>
    show ((rest (nandGate a b)).bind next).nands + 1 = (rest (nandGate a b)).nands + 1 + _
    rw [ih, Net.run]
    omega

theorem mapNet_nands (g : Signal → Net Signal Signal) (k : Nat) (hg : ∀ a, (g a).nands = k) (w : List Signal) :
    (mapNet g w).nands = w.length * k := by
  induction w with
  | nil => simp [mapNet]
  | cons a rest ih => simp [mapNet, hg, ih]; ring

theorem zipNet_nands (g : Signal → Signal → Net Signal Signal) (k : Nat) (hg : ∀ a b, (g a b).nands = k)
    (u v : List Signal) : (zipNet g u v).nands = min u.length v.length * k := by
  induction u generalizing v with
  | nil => simp [zipNet]
  | cons a as ih =>
    cases v with
    | nil => simp [zipNet]
    | cons b bs => simp [zipNet, hg, ih, Nat.add_min_add_right]; ring

theorem foldNet_nands (g : Signal → Signal → Net Signal Signal) (k : Nat) (hg : ∀ a b, (g a b).nands = k)
    (acc : Signal) (w : List Signal) : (foldNet g acc w).nands = w.length * k := by
  induction w generalizing acc with
  | nil => simp [foldNet]
  | cons a rest ih => simp [foldNet, hg, ih]; ring

end Sys2Proof.Machine
end

