-- ==== Sys2Proof/Laws/State.lean ====
section
/-! SUPPORT. State: one lemma per field per update of the state and of its ports, each true by definition. -/

namespace Sys2Proof.Machine

section Outputs
variable (s : State) (o o' : Outputs s.config.width)

@[simp] theorem State.withOutputs_config : (s.withOutputs o).config = s.config := rfl
@[simp] theorem State.withOutputs_request : (s.withOutputs o).request = s.request := rfl
@[simp] theorem State.withOutputs_inputs : (s.withOutputs o).inputs = s.inputs := rfl
@[simp] theorem State.withOutputs_outputs : (s.withOutputs o).outputs = some o := rfl
@[simp] theorem State.withOutputs_requested : (s.withOutputs o).requested = s.requested := rfl
@[simp] theorem State.withOutputs_withOutputs : (s.withOutputs o).withOutputs o' = s.withOutputs o' := rfl

end Outputs

section Host
variable (s : State)

@[simp] theorem State.ask_config (sel : Selector) : (s.ask sel).config = s.config := rfl
@[simp] theorem State.ask_request (sel : Selector) : (s.ask sel).request = some sel := rfl
@[simp] theorem State.ask_inputs (sel : Selector) : (s.ask sel).inputs = s.inputs := rfl
@[simp] theorem State.ask_outputs (sel : Selector) : (s.ask sel).outputs = s.outputs := rfl

@[simp] theorem State.driveSignal_config (p : SignalPort) (v : Signal) :
    (s.driveSignal p v).config = s.config := rfl
@[simp] theorem State.driveSignal_request (p : SignalPort) (v : Signal) :
    (s.driveSignal p v).request = s.request := rfl
@[simp] theorem State.driveSignal_signal (p : SignalPort) (v : Signal) :
    (s.driveSignal p v).inputs.signal = s.inputs.signal.set p v := rfl
@[simp] theorem State.driveSignal_control (p : SignalPort) (v : Signal) :
    (s.driveSignal p v).inputs.control = s.inputs.control := rfl
@[simp] theorem State.driveSignal_bus (p : SignalPort) (v : Signal) :
    (s.driveSignal p v).inputs.bus = s.inputs.bus := rfl

@[simp] theorem State.driveControl_config (p : ControlPort) (v : Signal) :
    (s.driveControl p v).config = s.config := rfl
@[simp] theorem State.driveControl_request (p : ControlPort) (v : Signal) :
    (s.driveControl p v).request = s.request := rfl
@[simp] theorem State.driveControl_signal (p : ControlPort) (v : Signal) :
    (s.driveControl p v).inputs.signal = s.inputs.signal := rfl
@[simp] theorem State.driveControl_control (p : ControlPort) (v : Signal) :
    (s.driveControl p v).inputs.control = s.inputs.control.set p v := rfl
@[simp] theorem State.driveControl_bus (p : ControlPort) (v : Signal) :
    (s.driveControl p v).inputs.bus = s.inputs.bus := rfl

@[simp] theorem State.driveBus_config (p : BusPort) (v : Bus s.config.width) :
    (s.driveBus p v).config = s.config := rfl
@[simp] theorem State.driveBus_request (p : BusPort) (v : Bus s.config.width) :
    (s.driveBus p v).request = s.request := rfl
@[simp] theorem State.driveBus_signal (p : BusPort) (v : Bus s.config.width) :
    (s.driveBus p v).inputs.signal = s.inputs.signal := rfl
@[simp] theorem State.driveBus_control (p : BusPort) (v : Bus s.config.width) :
    (s.driveBus p v).inputs.control = s.inputs.control := rfl
@[simp] theorem State.driveBus_bus (p : BusPort) (v : Bus s.config.width) :
    (s.driveBus p v).inputs.bus = s.inputs.bus.set p v := rfl

end Host

end Sys2Proof.Machine
end

