-- ==== Sys2Proof/Laws/Ops.lean ====
section
/-! SUPPORT. Ops: what the shared operations can do, said once. -/

namespace Sys2Proof.Machine

/-- Emitting outputs answers a next state, and only this one. -/
theorem State.emit_eq_next_iff (s t : State) (o : Outputs s.config.width) :
    s.emit o = .next t ↔ t = s.withOutputs o := by
  constructor
  · intro h
    simpa [State.emit] using h.symm
  · rintro rfl
    rfl

/-- What is asked for is an evaluation only if a selector stands in the state that decodes to it. -/
theorem State.requested_eq_ok_iff (s : State) (i : Instr) :
    s.requested = .ok i ↔ ∃ sel, s.request = some sel ∧ decode sel = .ok i := by
  unfold State.requested
  cases s.request with
  | none => simp
  | some sel =>
    cases h : decode sel with
    | ok j => simp [h]
    | error e => cases e; simp [h]

/-- An ALU evaluation under a word is the emission of the cell's outputs for the operand ports. -/
theorem State.evaluateWord_eq (s : State) (zx nx zy ny f no : Signal) :
    s.evaluateWord zx nx zy ny f no = .next (s.withOutputs (.alu (alu s.inputs.bus.x s.inputs.bus.y zx nx zy ny f no))) :=
  rfl

/-- A list of wires is connected exactly when it is as long as the width, and then whole. -/
theorem connectBus_eq_ok_iff (N : Width) (wires : List Signal) (b : Bus N) :
    connectBus N wires = .ok b ↔ b.wires = wires := by
  unfold connectBus
  constructor
  · intro h
    split at h
    · cases h; rfl
    · cases h
  · rintro rfl
    simp [b.width_eq]

end Sys2Proof.Machine
end

