-- ==== Sys2Proof/Laws/PerInstr.lean ====
section
/-! SUPPORT. PerInstr: for each evaluation, the decoder reads its encoding back (spec/30_encoding.md R33, R38). -/

namespace Sys2Proof.Laws.RoundTrip

/-- What the encoder writes for `i` is well-formed, and the decoder gives `i` for it. -/
def Statement (i : Instr) : Prop := (encode i).wellFormed = true ∧ decode (encode i) = .ok i

theorem alu000000 : Statement .alu000000 := ⟨rfl, rfl⟩
theorem alu000001 : Statement .alu000001 := ⟨rfl, rfl⟩
theorem alu000010 : Statement .alu000010 := ⟨rfl, rfl⟩
theorem alu000011 : Statement .alu000011 := ⟨rfl, rfl⟩
theorem alu000100 : Statement .alu000100 := ⟨rfl, rfl⟩
theorem alu000101 : Statement .alu000101 := ⟨rfl, rfl⟩
theorem alu000110 : Statement .alu000110 := ⟨rfl, rfl⟩
theorem alu000111 : Statement .alu000111 := ⟨rfl, rfl⟩
theorem alu001000 : Statement .alu001000 := ⟨rfl, rfl⟩
theorem alu001001 : Statement .alu001001 := ⟨rfl, rfl⟩
theorem alu001010 : Statement .alu001010 := ⟨rfl, rfl⟩
theorem alu001011 : Statement .alu001011 := ⟨rfl, rfl⟩
theorem alu001100 : Statement .alu001100 := ⟨rfl, rfl⟩
theorem alu001101 : Statement .alu001101 := ⟨rfl, rfl⟩
theorem alu001110 : Statement .alu001110 := ⟨rfl, rfl⟩
theorem alu001111 : Statement .alu001111 := ⟨rfl, rfl⟩
theorem alu010000 : Statement .alu010000 := ⟨rfl, rfl⟩
theorem alu010001 : Statement .alu010001 := ⟨rfl, rfl⟩
theorem alu010010 : Statement .alu010010 := ⟨rfl, rfl⟩
theorem alu010011 : Statement .alu010011 := ⟨rfl, rfl⟩
theorem alu010100 : Statement .alu010100 := ⟨rfl, rfl⟩
theorem alu010101 : Statement .alu010101 := ⟨rfl, rfl⟩
theorem alu010110 : Statement .alu010110 := ⟨rfl, rfl⟩
theorem alu010111 : Statement .alu010111 := ⟨rfl, rfl⟩
theorem alu011000 : Statement .alu011000 := ⟨rfl, rfl⟩
theorem alu011001 : Statement .alu011001 := ⟨rfl, rfl⟩
theorem alu011010 : Statement .alu011010 := ⟨rfl, rfl⟩
theorem alu011011 : Statement .alu011011 := ⟨rfl, rfl⟩
theorem alu011100 : Statement .alu011100 := ⟨rfl, rfl⟩
theorem alu011101 : Statement .alu011101 := ⟨rfl, rfl⟩
theorem alu011110 : Statement .alu011110 := ⟨rfl, rfl⟩
theorem alu011111 : Statement .alu011111 := ⟨rfl, rfl⟩
theorem alu100000 : Statement .alu100000 := ⟨rfl, rfl⟩
theorem alu100001 : Statement .alu100001 := ⟨rfl, rfl⟩
theorem alu100010 : Statement .alu100010 := ⟨rfl, rfl⟩
theorem alu100011 : Statement .alu100011 := ⟨rfl, rfl⟩
theorem alu100100 : Statement .alu100100 := ⟨rfl, rfl⟩
theorem alu100101 : Statement .alu100101 := ⟨rfl, rfl⟩
theorem alu100110 : Statement .alu100110 := ⟨rfl, rfl⟩
theorem alu100111 : Statement .alu100111 := ⟨rfl, rfl⟩
theorem alu101000 : Statement .alu101000 := ⟨rfl, rfl⟩
theorem alu101001 : Statement .alu101001 := ⟨rfl, rfl⟩
theorem alu101010 : Statement .alu101010 := ⟨rfl, rfl⟩
theorem alu101011 : Statement .alu101011 := ⟨rfl, rfl⟩
theorem alu101100 : Statement .alu101100 := ⟨rfl, rfl⟩
theorem alu101101 : Statement .alu101101 := ⟨rfl, rfl⟩
theorem alu101110 : Statement .alu101110 := ⟨rfl, rfl⟩
theorem alu101111 : Statement .alu101111 := ⟨rfl, rfl⟩
theorem alu110000 : Statement .alu110000 := ⟨rfl, rfl⟩
theorem alu110001 : Statement .alu110001 := ⟨rfl, rfl⟩
theorem alu110010 : Statement .alu110010 := ⟨rfl, rfl⟩
theorem alu110011 : Statement .alu110011 := ⟨rfl, rfl⟩
theorem alu110100 : Statement .alu110100 := ⟨rfl, rfl⟩
theorem alu110101 : Statement .alu110101 := ⟨rfl, rfl⟩
theorem alu110110 : Statement .alu110110 := ⟨rfl, rfl⟩
theorem alu110111 : Statement .alu110111 := ⟨rfl, rfl⟩
theorem alu111000 : Statement .alu111000 := ⟨rfl, rfl⟩
theorem alu111001 : Statement .alu111001 := ⟨rfl, rfl⟩
theorem alu111010 : Statement .alu111010 := ⟨rfl, rfl⟩
theorem alu111011 : Statement .alu111011 := ⟨rfl, rfl⟩
theorem alu111100 : Statement .alu111100 := ⟨rfl, rfl⟩
theorem alu111101 : Statement .alu111101 := ⟨rfl, rfl⟩
theorem alu111110 : Statement .alu111110 := ⟨rfl, rfl⟩
theorem alu111111 : Statement .alu111111 := ⟨rfl, rfl⟩
theorem nand : Statement .nand := ⟨rfl, rfl⟩
theorem not : Statement .not := ⟨rfl, rfl⟩
theorem and : Statement .and := ⟨rfl, rfl⟩
theorem or : Statement .or := ⟨rfl, rfl⟩
theorem xor : Statement .xor := ⟨rfl, rfl⟩
theorem mux : Statement .mux := ⟨rfl, rfl⟩
theorem dmux : Statement .dmux := ⟨rfl, rfl⟩
theorem notN : Statement .notN := ⟨rfl, rfl⟩
theorem andN : Statement .andN := ⟨rfl, rfl⟩
theorem orN : Statement .orN := ⟨rfl, rfl⟩
theorem muxN : Statement .muxN := ⟨rfl, rfl⟩
theorem orMWay : Statement .orMWay := ⟨rfl, rfl⟩
theorem andMWay : Statement .andMWay := ⟨rfl, rfl⟩
theorem mux4WayN : Statement .mux4WayN := ⟨rfl, rfl⟩
theorem mux8WayN : Statement .mux8WayN := ⟨rfl, rfl⟩
theorem dmux4Way : Statement .dmux4Way := ⟨rfl, rfl⟩
theorem dmux8Way : Statement .dmux8Way := ⟨rfl, rfl⟩
theorem halfAdder : Statement .halfAdder := ⟨rfl, rfl⟩
theorem fullAdder : Statement .fullAdder := ⟨rfl, rfl⟩
theorem nAdder : Statement .nAdder := ⟨rfl, rfl⟩
theorem nIncrementer : Statement .nIncrementer := ⟨rfl, rfl⟩
theorem alu : Statement .alu := ⟨rfl, rfl⟩

end Sys2Proof.Laws.RoundTrip
end

