-- ==== Sys2Proof/Laws/Safety.lean ====
section
/-! SUPPORT. Safety: the reading of a signal that stands for a truth value. -/

namespace Sys2Proof.Machine

theorem signalOf_eq_high_iff (p : Prop) [Decidable p] : signalOf p = .high ↔ p := by
  unfold signalOf; split <;> simp_all

theorem signalOf_eq_low_iff (p : Prop) [Decidable p] : signalOf p = .low ↔ ¬p := by
  unfold signalOf; split <;> simp_all

end Sys2Proof.Machine
end

