-- ==== Sys2Proof/Tests/Slice0.lean ====
section
/-! SUPPORT. Slice0: the model's own tests. Expected values are those of spec/95_test_vectors.md and of the tables in the
rules, none is the model's own answer. The theorems `witness_…` show that the hypotheses of the statements of
Certificates/Slice0/Obligations.lean can be met together. -/

namespace Sys2Proof.Tests
open Sys2Proof.Machine

set_option maxRecDepth 8000

abbrev L : Signal := .low
abbrev H : Signal := .high

/-- The output ports as one list: the result bus, then `zr` and `ng` for an ALU evaluation. -/
def wiresOf {N : Width} : Outputs N → List Signal
  | .signal v => [v]
  | .bus b => b.wires
  | .dmux r => [r.outA, r.outB]
  | .halfAdder r => [r.carry, r.sum]
  | .fullAdder r => [r.carryOut, r.sum]
  | .dmux4 r => r.toList
  | .dmux8 r => r.toList
  | .alu r => r.out.wires ++ [r.zr, r.ng]

/-- The state an outcome answers, if it answers one. -/
def nextOf : Host.Outcome State Fault Refusal → Option State
  | .next s => some s
  | _ => none

/-- The refusal an outcome ends in, if it ends in one. -/
def refusalOf : Host.Outcome State Fault Refusal → Option Refusal
  | .refused r => some r
  | _ => none

/-- Drives the given bus ports, one after the other. -/
def drive : List (BusPort × List Signal) → State → Option State
  | [], s => some s
  | (port, wires) :: rest, s => (nextOf (s.driveWires port wires)).bind (drive rest)

/-- One step at width `n`: the cells placed, the ports driven, the evaluation asked for and run. -/
def evaluate (n : Nat) (sel1Low : Bool) (sel : Selector) (buses : List (BusPort × List Signal))
    (signals : List (SignalPort × Signal)) : Option (List Signal) := do
  let s ← (nextOf (place n sel1Low)).bind (drive buses)
  let s := signals.foldl (fun s p => s.driveSignal p.1 p.2) s
  let t ← nextOf (step (s.ask sel))
  t.outputs.map wiresOf

/-- One evaluation of a control word at width 5 on 3 and 4: the result's signed value and the two flags. -/
def aluOn3And4 (word : List Signal) : Option (Int × Signal × Signal) := do
  let s ← drive [(.x, [L, L, L, H, H]), (.y, [L, L, H, L, L])] (State.idle ⟨⟨5, by decide⟩, true⟩)
  let t ← nextOf (step (s.ask (.word word)))
  let o ← t.outputs
  let v ← o.bus?
  let zr ← o.zr?
  let ng ← o.ng?
  return (v.sval, zr, ng)

/-- One ALU evaluation at width 16 on the integers `x` and `y`: the decoded result and the two flags. -/
def aluOn (word : List Signal) (x y : Int) : Option (Int × Signal × Signal) := do
  let s ← nextOf (State.reset.driveInt .x x)
  let s ← nextOf (s.driveInt .y y)
  let t ← nextOf (step (s.ask (.word word)))
  let o ← t.outputs
  let v ← (t.readInt.bind (·.toOption))
  let zr ← o.zr?
  let ng ← o.ng?
  return (v, zr, ng)

/-! Well-formedness: for each check a term it refuses and one it takes. -/

theorem test_wellFormed_refuses_width_zero : wellFormedWidth 0 = false ∧ wellFormedWidth 1 = true := by decide
theorem test_wellFormed_refuses_short_bus :
    wellFormedBus 4 [L, H, L] = false ∧ wellFormedBus 4 [L, H, L, H] = true := by decide
theorem test_wellFormed_refuses_long_bus : wellFormedBus 2 [L, H, L] = false := by decide
theorem test_wellFormed_refuses_empty_bus : wellFormedBus 0 [] = false := by decide
theorem test_wellFormed_refuses_word_of_five :
    (Selector.word [L, L, L, L, H]).wellFormed = false ∧ (Selector.word [L, L, L, L, H, L]).wellFormed = true := by
  decide
theorem test_wellFormed_refuses_word_of_seven : (Selector.word [L, L, L, L, L, H, L]).wellFormed = false := by decide

/-! Decoding: the words written out from the `encoding` column of the opcode table (R30, R38). -/

theorem test_decode_words_0_to_15 :
    [[L, L, L, L, L, L], [L, L, L, L, L, H], [L, L, L, L, H, L], [L, L, L, L, H, H],
      [L, L, L, H, L, L], [L, L, L, H, L, H], [L, L, L, H, H, L], [L, L, L, H, H, H],
      [L, L, H, L, L, L], [L, L, H, L, L, H], [L, L, H, L, H, L], [L, L, H, L, H, H],
      [L, L, H, H, L, L], [L, L, H, H, L, H], [L, L, H, H, H, L], [L, L, H, H, H, H]].map
        (fun word => (decode (.word word)).toOption) =
      ([.alu000000, .alu000001, .alu000010, .alu000011,
      .alu000100, .alu000101, .alu000110, .alu000111,
      .alu001000, .alu001001, .alu001010, .alu001011,
      .alu001100, .alu001101, .alu001110, .alu001111].map some : List (Option Instr)) := by decide

theorem test_table_words_0_to_15 :
    [0, 1, 2, 3, 4, 5, 6, 7, 8, 9, 10, 11, 12, 13, 14, 15].map (decodeTableWord 8) =
      ([.alu000000, .alu000001, .alu000010, .alu000011,
      .alu000100, .alu000101, .alu000110, .alu000111,
      .alu001000, .alu001001, .alu001010, .alu001011,
      .alu001100, .alu001101, .alu001110, .alu001111].map some : List (Option Instr)) := by decide

theorem test_decode_words_16_to_31 :
    [[L, H, L, L, L, L], [L, H, L, L, L, H], [L, H, L, L, H, L], [L, H, L, L, H, H],
      [L, H, L, H, L, L], [L, H, L, H, L, H], [L, H, L, H, H, L], [L, H, L, H, H, H],
      [L, H, H, L, L, L], [L, H, H, L, L, H], [L, H, H, L, H, L], [L, H, H, L, H, H],
      [L, H, H, H, L, L], [L, H, H, H, L, H], [L, H, H, H, H, L], [L, H, H, H, H, H]].map
        (fun word => (decode (.word word)).toOption) =
      ([.alu010000, .alu010001, .alu010010, .alu010011,
      .alu010100, .alu010101, .alu010110, .alu010111,
      .alu011000, .alu011001, .alu011010, .alu011011,
      .alu011100, .alu011101, .alu011110, .alu011111].map some : List (Option Instr)) := by decide

theorem test_table_words_16_to_31 :
    [16, 17, 18, 19, 20, 21, 22, 23, 24, 25, 26, 27, 28, 29, 30, 31].map (decodeTableWord 8) =
      ([.alu010000, .alu010001, .alu010010, .alu010011,
      .alu010100, .alu010101, .alu010110, .alu010111,
      .alu011000, .alu011001, .alu011010, .alu011011,
      .alu011100, .alu011101, .alu011110, .alu011111].map some : List (Option Instr)) := by decide

theorem test_decode_words_32_to_47 :
    [[H, L, L, L, L, L], [H, L, L, L, L, H], [H, L, L, L, H, L], [H, L, L, L, H, H],
      [H, L, L, H, L, L], [H, L, L, H, L, H], [H, L, L, H, H, L], [H, L, L, H, H, H],
      [H, L, H, L, L, L], [H, L, H, L, L, H], [H, L, H, L, H, L], [H, L, H, L, H, H],
      [H, L, H, H, L, L], [H, L, H, H, L, H], [H, L, H, H, H, L], [H, L, H, H, H, H]].map
        (fun word => (decode (.word word)).toOption) =
      ([.alu100000, .alu100001, .alu100010, .alu100011,
      .alu100100, .alu100101, .alu100110, .alu100111,
      .alu101000, .alu101001, .alu101010, .alu101011,
      .alu101100, .alu101101, .alu101110, .alu101111].map some : List (Option Instr)) := by decide

theorem test_table_words_32_to_47 :
    [32, 33, 34, 35, 36, 37, 38, 39, 40, 41, 42, 43, 44, 45, 46, 47].map (decodeTableWord 8) =
      ([.alu100000, .alu100001, .alu100010, .alu100011,
      .alu100100, .alu100101, .alu100110, .alu100111,
      .alu101000, .alu101001, .alu101010, .alu101011,
      .alu101100, .alu101101, .alu101110, .alu101111].map some : List (Option Instr)) := by decide

theorem test_decode_words_48_to_63 :
    [[H, H, L, L, L, L], [H, H, L, L, L, H], [H, H, L, L, H, L], [H, H, L, L, H, H],
      [H, H, L, H, L, L], [H, H, L, H, L, H], [H, H, L, H, H, L], [H, H, L, H, H, H],
      [H, H, H, L, L, L], [H, H, H, L, L, H], [H, H, H, L, H, L], [H, H, H, L, H, H],
      [H, H, H, H, L, L], [H, H, H, H, L, H], [H, H, H, H, H, L], [H, H, H, H, H, H]].map
        (fun word => (decode (.word word)).toOption) =
      ([.alu110000, .alu110001, .alu110010, .alu110011,
      .alu110100, .alu110101, .alu110110, .alu110111,
      .alu111000, .alu111001, .alu111010, .alu111011,
      .alu111100, .alu111101, .alu111110, .alu111111].map some : List (Option Instr)) := by decide

theorem test_table_words_48_to_63 :
    [48, 49, 50, 51, 52, 53, 54, 55, 56, 57, 58, 59, 60, 61, 62, 63].map (decodeTableWord 8) =
      ([.alu110000, .alu110001, .alu110010, .alu110011,
      .alu110100, .alu110101, .alu110110, .alu110111,
      .alu111000, .alu111001, .alu111010, .alu111011,
      .alu111100, .alu111101, .alu111110, .alu111111].map some : List (Option Instr)) := by decide

theorem test_decode_cells :
    ([.nand, .not, .and, .or, .xor, .mux, .dmux, .notN, .andN, .orN, .muxN,
      .orMWay, .andMWay, .mux4WayN, .mux8WayN, .dmux4Way, .dmux8Way, .halfAdder, .fullAdder, .nAdder, .nIncrementer, .alu].map
      (fun c => (decode (.placed c)).toOption)) =
      ([.nand, .not, .and, .or, .xor, .mux, .dmux, .notN, .andN, .orN, .muxN,
      .orMWay, .andMWay, .mux4WayN, .mux8WayN, .dmux4Way, .dmux8Way, .halfAdder, .fullAdder, .nAdder, .nIncrementer, .alu].map some :
        List (Option Instr)) := by decide

theorem test_decode_refuses_seven_signals :
    (decode (.word [L, L, L, L, L, L, H])).toOption = none := by decide
theorem test_table_word_with_padding_set : decodeTableWord 8 0x40 = none ∧ decodeTableWord 8 0x82 = none := by decide

/-! Buses as numbers (R9): index 0 is the most significant. -/

theorem test_number_of_bus : numberOfSignals [H, L, H, L] = 10 ∧ signalsOfNumber 4 10 = [H, L, H, L] := by decide
theorem test_sval : (⟨[H, L, H, L], rfl⟩ : Bus ⟨4, by decide⟩).sval = -6 := by decide

/-! Single-bit gates (section 2.1; R40 to R46), all rows in the order 00, 01, 10, 11. -/

def rows2 (g : Signal → Signal → Signal) : List Signal := [g L L, g L H, g H L, g H H]

theorem test_nand_table : rows2 nandGate = [H, H, H, L] := by decide
theorem test_not_table : [notGate L, notGate H] = [H, L] := by decide
theorem test_and_table : rows2 andGate = [L, L, L, H] := by decide
theorem test_or_table : rows2 orGate = [L, H, H, H] := by decide
theorem test_xor_table : rows2 xorGate = [L, H, H, L] := by decide
theorem test_mux_table :
    rows2 (fun a b => muxGate a b L) = [L, L, H, H] ∧ rows2 (fun a b => muxGate a b H) = [L, H, L, H] := by decide
theorem test_dmux_table :
    [dmuxGate L L, dmuxGate L H, dmuxGate H L, dmuxGate H H] = [⟨L, L⟩, ⟨L, L⟩, ⟨H, L⟩, ⟨L, H⟩] := by decide
theorem test_nand_step : evaluate 16 true (.placed .nand) [] [(.a, H), (.b, H)] = some [L] := by decide
theorem test_not_step : evaluate 16 true (.placed .not) [] [(.a, H), (.b, L)] = some [L] := by decide
theorem test_and_step : evaluate 16 true (.placed .and) [] [(.a, H), (.b, L)] = some [L] := by decide
theorem test_or_step : evaluate 16 true (.placed .or) [] [(.a, L), (.b, H)] = some [H] := by decide
theorem test_xor_step : evaluate 16 true (.placed .xor) [] [(.a, H), (.b, H)] = some [L] := by decide
theorem test_mux_step : evaluate 16 true (.placed .mux) [] [(.a, H), (.b, L), (.sel, H)] = some [L] := by decide
theorem test_dmux_step : evaluate 16 true (.placed .dmux) [] [(.inp, H), (.sel, H)] = some [L, H] := by decide

/-! Lifts, reducers and selectors (sections 2.2, 2.3). -/

theorem test_notN_step : evaluate 4 true (.placed .notN) [(.bus, [H, H, L, L])] [] = some [L, L, H, H] := by decide
theorem test_andN_step :
    evaluate 4 true (.placed .andN) [(.a, [H, H, L, L]), (.b, [H, L, H, L])] [] = some [H, L, L, L] := by decide
theorem test_orN_step :
    evaluate 4 true (.placed .orN) [(.a, [H, H, L, L]), (.b, [H, L, H, L])] [] = some [H, H, H, L] := by decide
theorem test_muxN_step :
    [L, H].map (fun sel => evaluate 4 true (.placed .muxN) [(.a, [H, H, L, L]), (.b, [H, L, H, L])] [(.sel, sel)]) =
      [some [H, H, L, L], some [H, L, H, L]] := by decide
theorem test_orMWay_step :
    [[L, L, L, L], [L, L, L, H], [H, L, L, L]].map (fun b => evaluate 4 true (.placed .orMWay) [(.bus, b)] []) =
      [some [L], some [H], some [H]] := by decide
theorem test_andMWay_step :
    [[L, H, H, L], [H, L, L, L], [H, H, H, H]].map (fun b => evaluate 4 true (.placed .andMWay) [(.bus, b)] []) =
      [some [L], some [L], some [H]] := by decide
theorem test_mux4WayN_step :
    [(L, L), (H, L), (L, H), (H, H)].map (fun q => evaluate 4 true (.placed .mux4WayN)
      [(.a, [L, L, L, H]), (.b, [L, L, H, L]), (.c, [L, H, L, L]), (.d, [H, L, L, L])]
      [(.sel1, q.1), (.sel2, q.2)]) =
      [some [L, L, L, H], some [L, L, H, L], some [L, H, L, L], some [H, L, L, L]] := by decide
theorem test_mux8WayN_step :
    [(H, L, L), (L, L, H), (H, H, L), (L, H, H)].map (fun q => evaluate 3 true (.placed .mux8WayN)
      [(.a, [L, L, L]), (.b, [L, L, H]), (.c, [L, H, L]), (.d, [L, H, H]),
        (.e, [H, L, L]), (.f, [H, L, H]), (.g, [H, H, L]), (.h, [H, H, H])]
      [(.sel1, q.1), (.sel2, q.2.1), (.sel3, q.2.2)]) =
      [some [L, L, H], some [H, L, L], some [L, H, H], some [H, H, L]] := by decide
theorem test_dmux4Way_default_reading :
    [(L, L), (H, L), (L, H), (H, H)].map (fun q => evaluate 16 true (.placed .dmux4Way) []
      [(.inp, H), (.sel1, q.1), (.sel2, q.2)]) =
      [some [H, L, L, L], some [L, H, L, L], some [L, L, H, L], some [L, L, L, H]] := by decide
theorem test_dmux4Way_other_reading :
    [(L, L), (H, L), (L, H), (H, H)].map (fun q => evaluate 16 false (.placed .dmux4Way) []
      [(.inp, H), (.sel1, q.1), (.sel2, q.2)]) =
      [some [H, L, L, L], some [L, L, H, L], some [L, H, L, L], some [L, L, L, H]] := by decide
theorem test_dmux8Way_default_reading :
    [(H, L, L), (L, L, H), (H, H, L), (L, H, H)].map (fun q => evaluate 16 true (.placed .dmux8Way) []
      [(.inp, H), (.sel1, q.1), (.sel2, q.2.1), (.sel3, q.2.2)]) =
      [some [L, H, L, L, L, L, L, L], some [L, L, L, L, H, L, L, L], some [L, L, L, H, L, L, L, L],
        some [L, L, L, L, L, L, H, L]] := by decide
theorem test_dmux8Way_other_reading :
    [(H, L, L), (L, L, H), (H, H, L), (L, H, H)].map (fun q => evaluate 16 false (.placed .dmux8Way) []
      [(.inp, H), (.sel1, q.1), (.sel2, q.2.1), (.sel3, q.2.2)]) =
      [some [L, L, L, L, H, L, L, L], some [L, H, L, L, L, L, L, L], some [L, L, L, L, L, L, H, L],
        some [L, L, L, H, L, L, L, L]] := by decide

/-! Adders (section 2.4; R65 to R68). -/

theorem test_halfAdder_step :
    [(L, L), (L, H), (H, L), (H, H)].map (fun q =>
      evaluate 16 true (.placed .halfAdder) [] [(.a, q.1), (.b, q.2)]) =
      [some [L, L], some [L, H], some [L, H], some [H, L]] := by decide
theorem test_fullAdder_step :
    [(L, L, H), (L, H, H), (H, L, H), (H, H, L), (H, H, H)].map (fun q =>
      evaluate 16 true (.placed .fullAdder) [] [(.a, q.1), (.b, q.2.1), (.carryIn, q.2.2)]) =
      [some [L, H], some [H, L], some [H, L], some [H, L], some [H, H]] := by decide
theorem test_nAdder_step :
    [([H, L, L, L], [L, L, H, L]), ([L, H, H, H], [L, L, L, H]), ([H, H, H, H], [H, H, H, H])].map (fun q =>
      evaluate 4 true (.placed .nAdder) [(.busA, q.1), (.busB, q.2)] []) =
      [some [H, L, H, L], some [H, L, L, L], some [H, H, H, L]] := by decide
theorem test_nAdder_ripples_across_sixteen :
    evaluate 16 true (.placed .nAdder) [(.busA, signalsOfNumber 16 0x7FFF), (.busB, signalsOfNumber 16 1)] [] =
      some (signalsOfNumber 16 0x8000) := by decide
theorem test_nIncrementer_step :
    [[L, L, L, L], [H, H, H, H], [L, H, H, H]].map (fun b =>
      evaluate 4 true (.placed .nIncrementer) [(.bus, b)] []) =
      [some [L, L, L, H], some [L, L, L, L], some [H, L, L, L]] := by decide

/-! The ALU (sections 2.5 to 2.7). -/

/-- The trace of section 2.5: word 010011 on 3 and 4. -/
theorem test_alu_trace :
    let w := aluWires (Bus.ofInt width16 3) (Bus.ofInt width16 4) L H L L H H
    [w.x1, w.x2, w.y1, w.y2, w.g, w.s, w.o1, w.out].map Bus.sval = [3, -4, 4, 4, 4, 0, 0, -1] ∧
      w.zr = L ∧ w.ng = H := by decide

/-- The trace's overflow case at `N = 4`: 7 - (-8) wraps to -1. -/
theorem test_alu_flags_report_wrapped_sign :
    evaluate 4 true (.word [L, H, L, L, H, H]) [(.x, [L, H, H, H]), (.y, [H, L, L, L])] [] =
      some ([H, H, H, H] ++ [L, H]) := by decide

/-! Every control word on 3 and 4: the `function` column of the opcode table worked out by hand arithmetic, with
`zr` and `ng` by R81 and R82. All results fit 5 bits, so they are those that section 2.7 prints at `N = 16`. -/

theorem test_words_0_to_7_on_3_and_4 :
    [[L, L, L, L, L, L], [L, L, L, L, L, H], [L, L, L, L, H, L], [L, L, L, L, H, H],
      [L, L, L, H, L, L], [L, L, L, H, L, H], [L, L, L, H, H, L], [L, L, L, H, H, H]].map aluOn3And4 =
      [some (0, H, L), some (-1, L, H), some (7, L, L), some (-8, L, H),
        some (3, L, L), some (-4, L, H), some (-2, L, H), some (1, L, L)] := by decide

theorem test_words_8_to_15_on_3_and_4 :
    [[L, L, H, L, L, L], [L, L, H, L, L, H], [L, L, H, L, H, L], [L, L, H, L, H, H],
      [L, L, H, H, L, L], [L, L, H, H, L, H], [L, L, H, H, H, L], [L, L, H, H, H, H]].map aluOn3And4 =
      [some (0, H, L), some (-1, L, H), some (3, L, L), some (-4, L, H),
        some (3, L, L), some (-4, L, H), some (2, L, L), some (-3, L, H)] := by decide

theorem test_words_16_to_23_on_3_and_4 :
    [[L, H, L, L, L, L], [L, H, L, L, L, H], [L, H, L, L, H, L], [L, H, L, L, H, H],
      [L, H, L, H, L, L], [L, H, L, H, L, H], [L, H, L, H, H, L], [L, H, L, H, H, H]].map aluOn3And4 =
      [some (4, L, L), some (-5, L, H), some (0, H, L), some (-1, L, H),
        some (-8, L, H), some (7, L, L), some (-9, L, H), some (8, L, L)] := by decide

theorem test_words_24_to_31_on_3_and_4 :
    [[L, H, H, L, L, L], [L, H, H, L, L, H], [L, H, H, L, H, L], [L, H, H, L, H, H],
      [L, H, H, H, L, L], [L, H, H, H, L, H], [L, H, H, H, H, L], [L, H, H, H, H, H]].map aluOn3And4 =
      [some (0, H, L), some (-1, L, H), some (-4, L, H), some (3, L, L),
        some (-4, L, H), some (3, L, L), some (-5, L, H), some (4, L, L)] := by decide

theorem test_words_32_to_39_on_3_and_4 :
    [[H, L, L, L, L, L], [H, L, L, L, L, H], [H, L, L, L, H, L], [H, L, L, L, H, H],
      [H, L, L, H, L, L], [H, L, L, H, L, H], [H, L, L, H, H, L], [H, L, L, H, H, H]].map aluOn3And4 =
      [some (0, H, L), some (-1, L, H), some (4, L, L), some (-5, L, H),
        some (0, H, L), some (-1, L, H), some (-5, L, H), some (4, L, L)] := by decide

theorem test_words_40_to_47_on_3_and_4 :
    [[H, L, H, L, L, L], [H, L, H, L, L, H], [H, L, H, L, H, L], [H, L, H, L, H, H],
      [H, L, H, H, L, L], [H, L, H, H, L, H], [H, L, H, H, H, L], [H, L, H, H, H, H]].map aluOn3And4 =
      [some (0, H, L), some (-1, L, H), some (0, H, L), some (-1, L, H),
        some (0, H, L), some (-1, L, H), some (-1, L, H), some (0, H, L)] := by decide

theorem test_words_48_to_55_on_3_and_4 :
    [[H, H, L, L, L, L], [H, H, L, L, L, H], [H, H, L, L, H, L], [H, H, L, L, H, H],
      [H, H, L, H, L, L], [H, H, L, H, L, H], [H, H, L, H, H, L], [H, H, L, H, H, H]].map aluOn3And4 =
      [some (4, L, L), some (-5, L, H), some (3, L, L), some (-4, L, H),
        some (-5, L, H), some (4, L, L), some (-6, L, H), some (5, L, L)] := by decide

theorem test_words_56_to_63_on_3_and_4 :
    [[H, H, H, L, L, L], [H, H, H, L, L, H], [H, H, H, L, H, L], [H, H, H, L, H, H],
      [H, H, H, H, L, L], [H, H, H, H, L, H], [H, H, H, H, H, L], [H, H, H, H, H, H]].map aluOn3And4 =
      [some (0, H, L), some (-1, L, H), some (-1, L, H), some (0, H, L),
        some (-1, L, H), some (0, H, L), some (-2, L, H), some (1, L, L)] := by decide

/-- Rows of the table "Flags on corner results" of section 2.7. -/
theorem test_alu_corners :
    [([L, L, L, L, H, L], 32767, 1),
      ([L, H, L, L, H, H], -32768, 32767),
      ([L, L, H, H, H, H], -32768, 0),
      ([L, L, L, L, L, L], 21845, -21846)].map (fun q : List Signal × Int × Int => aluOn q.1 q.2.1 q.2.2) =
      [some (-32768, L, H), some (1, L, L), some (-32768, L, H), some (0, H, L)] := by decide

/-- At `N = 1` the constant-1 word gives the bus `1`, which is negative (R163, section 2.7). -/
theorem test_constant_one_at_width_one :
    evaluate 1 true (.word [H, H, H, H, H, H]) [(.x, [H]), (.y, [L])] [] = some ([H] ++ [L, H]) := by decide

/-- The `alu` cell reads the word at its own control ports: `x + y` with `f` alone `High` (section 1, S5). -/
theorem test_alu_cell_reads_control_ports :
    ((drive [(.x, [L, H, L, H]), (.y, [L, L, H, H])] (State.idle ⟨⟨4, by decide⟩, true⟩)).bind (fun s =>
      nextOf (step ((s.driveControl .f H).ask (.placed .alu))))).bind (·.outputs.map wiresOf) =
      some ([H, L, L, L] ++ [L, H]) := by decide

/-- The word as the first evaluation after reset, on the operands 0 and 0: 111111 gives 1. -/
theorem test_word_from_reset :
    (nextOf (step (State.reset.withFetchWord 8 0x3F))).bind (·.outputs.map wiresOf) =
      some (signalsOfNumber 16 1 ++ [L, L]) := by decide
theorem test_nothing_asked_at_reset : refusalOf (step State.reset) = some .noEvaluation := by decide

/-! Codec and boundary (section 2.8; R170 to R174, R181). -/

theorem test_codec_encodes :
    [0, -1, 32767, -32768, -6, -12345].map (fun v => ((intToBus16 v).toOption.map (·.wires))) =
      [0x0000, 0xFFFF, 0x7FFF, 0x8000, 0xFFFA, 0xCFC7].map (fun v => some (signalsOfNumber 16 v)) := by decide
theorem test_codec_decodes :
    [0x0000, 0xFFFF, 0x7FFF, 0x8000, 0xFF00, 0xAAAA].map
        (fun v => bus16ToInt ⟨signalsOfNumber 16 v, by simp [signalsOfNumber_length, width16]⟩) =
      [0, -1, 32767, -32768, -256, -21846] := by decide
theorem test_codec_refuses :
    (intToBus16 32768).toOption = none ∧ (intToBus16 (-32769)).toOption = none := by decide
theorem test_width_mismatch_refused :
    refusalOf (State.reset.driveWires .x [H, L, H]) = some .widthMismatch ∧
      refusalOf (place 0 true) = some .widthMismatch := by decide
theorem test_wiring_without_output_refused :
    refusalOf (State.reset.wireBus .x) = some .noSuchOutput ∧
      refusalOf (State.reset.wireSignal .zr .sel) = some .noSuchOutput := by decide

/-- A result wired to an operand port: `-x` and then `x + y` on it is `y - x` (section 3, P1, at `N = 4`: 5 and 3). -/
theorem test_wiring_subtracts :
    (do
      let s ← drive [(.x, [L, H, L, H]), (.y, [L, L, H, H])] (State.idle ⟨⟨4, by decide⟩, true⟩)
      let s ← nextOf (step (s.ask (.word [L, L, H, H, H, H])))
      let s ← nextOf (s.wireBus .x)
      let s ← nextOf (step (s.ask (.word [L, L, L, L, H, L])))
      s.outputs.map wiresOf) = some ([H, H, H, L] ++ [L, H]) := by decide

/-! Witnesses: the hypotheses of the statements can be met. -/

theorem witness_step_runs :
    (State.reset.ask (.placed .nand)).request = some (.placed .nand) ∧ decode (.placed .nand) = .ok .nand := by decide
theorem witness_step_refuses_no_request : State.reset.request = none := by decide
theorem witness_step_refuses_five_signals :
    (State.reset.ask (.word [L, L, L, L, H])).request = some (.word [L, L, L, L, H]) ∧ [L, L, L, L, H].length ≠ 6 := by
  decide
theorem witness_word_of_six : [L, L, L, L, H, L].length = 6 ∧ ([] : List Signal).length ≠ 6 := by decide

/-- A step that answers: for the frame, the repetition and the invariant. The state before it is settled. -/
theorem witness_step_answers :
    State.reset.Settled ∧ ∃ t, step (State.reset.withFetchWord 8 2) = .next t :=
  ⟨fun _ h => by simp [State.reset, State.idle] at h, _, rfl⟩
theorem witness_step_answers_from_a_settled_state :
    ∃ s t : State, s.Settled ∧ step (s.ask (.placed .nand)) = .next t :=
  ⟨State.reset, _, fun _ h => by simp [State.reset, State.idle] at h, rfl⟩

/-- A settled state that carries outputs: nothing is at the ports but `Low`, so `nand` gives `High`. -/
theorem witness_settled_with_outputs :
    ((State.reset.ask (.placed .nand)).withOutputs (.signal .high)).Settled := by
  rintro o ⟨⟩
  exact ⟨.nand, rfl, rfl⟩

theorem witness_exec_answers : ∃ t, exec .nAdder State.reset = .next t := ⟨_, rfl⟩
theorem witness_decode_is_encode : decode (encode .alu000010) = .ok .alu000010 := by decide

/-- Every six signals are the encoding of the row they decode to: the hypothesis of each word's rule. -/
theorem witness_every_word_is_an_encoding (zx nx zy ny f no : Signal) :
    encode (decodeControl zx nx zy ny f no) = .word [zx, nx, zy, ny, f, no] := by
  cases zx <;> cases nx <;> cases zy <;> cases ny <;> cases f <;> cases no <;> rfl
theorem witness_is_control_word : isControlWord .alu111111 := ⟨_, rfl⟩

/-- The control ports carry the word whose row is evaluated. -/
theorem witness_control_word_at_the_ports :
    let s := State.reset.driveControl .f H
    encode .alu000010 = .word [s.inputs.control.zx, s.inputs.control.nx, s.inputs.control.zy, s.inputs.control.ny,
      s.inputs.control.f, s.inputs.control.no] := by decide
theorem witness_outputs_of_an_alu : ∃ (o : Outputs width16) (r : AluOut width16), o = .alu r :=
  ⟨.alu (aluResult 0), _, rfl⟩

theorem witness_no_other_bitwise_word :
    encode .alu000000 = .word [L, L, L, L, L, L] ∧ encode .alu000001 = .word [L, L, L, L, L, H] ∧
      Instr.alu000001 ≠ .alu000000 ∧ 2 ≤ (⟨2, by decide⟩ : Width).n := by decide

theorem witness_no_other_one_operand_word :
    encode .alu001110 = .word [L, L, H, H, H, L] ∧ encode .alu001111 = .word [L, L, H, H, H, H] ∧
      Instr.alu001111 ≠ .alu001110 ∧ 2 ≤ (⟨2, by decide⟩ : Width).n := by decide

theorem witness_no_other_two_operand_word :
    encode .alu000010 = .word [L, L, L, L, H, L] ∧ encode .alu000011 = .word [L, L, L, L, H, H] ∧
      Instr.alu000011 ≠ .alu000010 ∧ 2 ≤ (⟨2, by decide⟩ : Width).n := by decide

theorem witness_function_of_a_word : aluFunctionOf .alu010011 = some .xMinusY ∧
    AluFunction.xMinusY ≠ .yMinusX ∧ AluFunction.xMinusY.canonicalWord = some .alu010011 := by decide
theorem witness_two_is_a_width : 2 ≤ (2 : Nat) := le_refl 2
theorem witness_functions_by_group :
    AluFunction.zero = .zero ∧ AluFunction.x ≠ .zero ∧ AluFunction.xPlusY ≠ .zero := by decide
theorem witness_zx_and_nx : ∃ zx nx : Signal, zx = .high ∧ nx = .high := ⟨_, _, rfl, rfl⟩
theorem witness_dmux_lines : (0 : Nat) < 4 ∧ 3 < 4 ∧ (0 : Nat) < 8 ∧ 7 < 8 := by decide
theorem witness_codec_range :
    (-32768 ≤ (-32768 : Int) ∧ (-32768 : Int) ≤ 32767) ∧ (-32768 ≤ (32767 : Int) ∧ (32767 : Int) ≤ 32767) := by decide
theorem witness_outside_codec_range : (-32769 : Int) < -32768 ∧ 32767 < (32768 : Int) := by decide
theorem witness_sign_of_a_bus : (Bus.ofInt width16 (-32768)).msb = .high ∧ (Bus.ofInt width16 32767).msb = .low := by
  decide
theorem witness_wires_of_the_width :
    (List.replicate 16 L).length = State.reset.config.width.n ∧ [L].length ≠ State.reset.config.width.n := by decide
theorem witness_placed_width : (1 : Nat) ≠ 0 ∧ width16.n = 16 ∧ (⟨1, by decide⟩ : Width).n ≠ 16 := by decide
theorem witness_equal_operands : State.reset.inputs.bus.x = State.reset.inputs.bus.y := by decide

end Sys2Proof.Tests
end

/-! PROOFS. Signals and buses as truth values and bit vectors: the gates as propositions about their inputs, and the
bus operations as operations on the bit vector that a bus writes (spec/00_scope.md R8, R9). -/

namespace Sys2Proof

/-- Element `i` of the signals that write a number is the bit of weight `2^(n-1-i)` (R9). -/
theorem signalsOfNumber_getElem (n v i : Nat) (h : i < (signalsOfNumber n v).length) :
    (signalsOfNumber n v)[i] = Signal.ofBool (v.testBit (n - 1 - i)) := by
  induction n generalizing i with
  | zero => simp [signalsOfNumber] at h
  | succ n ih =>
    cases i with
    | zero => simp [signalsOfNumber]
    | succ i =>
      simp only [signalsOfNumber, List.getElem_cons_succ, ih]
      congr 2
      omega

theorem Signal.ofBool_eq_high_iff (b : Bool) : Signal.ofBool b = .high ↔ b = true := by cases b <;> decide

theorem Signal.ne_high_iff (a : Signal) : a ≠ .high ↔ a = .low := by cases a <;> decide

/-- Element `i` of a bus is the bit of weight `2^(N-1-i)` of its value (R9). -/
theorem Bus.get_eq_testBit {N : Width} (b : Bus N) (i : Fin N.n) :
    b.get i = Signal.ofBool (b.val.testBit (N.n - 1 - i)) := by
  rw [← signalsOfNumber_getElem N.n b.val i (by rw [signalsOfNumber_length]; exact i.isLt)]
  have hw : b.wires = signalsOfNumber N.n b.val := by
    rw [← b.width_eq, Bus.val, signalsOfNumber_numberOfSignals]
  simp [Bus.get, hw]

/-- Bit `i` of the bit vector, from the most significant one, says whether element `i` is `High` (R8, R9). -/
theorem Bus.bv_getMsbD {N : Width} (b : Bus N) {i : Nat} (h : i < N.n) :
    b.bv.getMsbD i = decide (b.get ⟨i, h⟩ = .high) := by
  have hi : N.n - 1 - i < N.n := by omega
  rw [BitVec.getMsbD_eq_getLsbD, Bus.bv, BitVec.getLsbD_ofNat, Bus.get_eq_testBit]
  simp [h, hi, Signal.ofBool_eq_high_iff]

/-- Two buses are equal when their bit vectors are. -/
theorem Bus.ext_bv {N : Width} {a b : Bus N} (h : a.bv = b.bv) : a = b := by
  rw [← Bus.ofBV_bv a, h, Bus.ofBV_bv]

/-- A bus is determined by the bit vector it writes. -/
theorem Bus.eq_ofBV_iff {N : Width} (b : Bus N) (v : BitVec N.n) : b = Bus.ofBV v ↔ b.bv = v :=
  ⟨fun h => by rw [h, Bus.bv_ofBV], fun h => by rw [← h, Bus.ofBV_bv]⟩

@[simp] theorem Bus.bv_allLow (N : Width) : (Bus.allLow N).bv = 0 := by
  apply BitVec.eq_of_toNat_eq
  simp [Bus.allLow, Bus.val_fill, Signal.bit]

/-- Signals write 0 exactly when none is `High`. -/
theorem numberOfSignals_eq_zero_iff (w : List Signal) : numberOfSignals w = 0 ↔ .high ∉ w := by
  induction w with
  | nil => simp [numberOfSignals]
  | cons s rest ih => cases s <;> simp [numberOfSignals, Signal.bit, ih]

/-- Signals write the greatest number of their length exactly when none is `Low`. -/
theorem numberOfSignals_eq_max_iff (w : List Signal) : numberOfSignals w = 2 ^ w.length - 1 ↔ .low ∉ w := by
  induction w with
  | nil => simp [numberOfSignals]
  | cons s rest ih =>
    have hlt := numberOfSignals_lt rest
    rw [List.mem_cons, not_or, ← ih, numberOfSignals, List.length_cons, Nat.pow_succ]
    cases s <;> simp [Signal.bit] <;> omega

end Sys2Proof

namespace Sys2Proof.Machine

theorem eq_signalOf_iff (a : Signal) (p : Prop) [Decidable p] : a = signalOf p ↔ (a = .high ↔ p) := by
  unfold signalOf
  cases a <;> by_cases hp : p <;> simp [hp]

/-! ### The gates (spec/40_gates.md) -/

section Gates
variable (a b sel inp : Signal)

theorem nandGate_eq_signalOf : nandGate a b = signalOf ¬(a = .high ∧ b = .high) := by
  cases a <;> cases b <;> rfl

theorem notGate_eq_signalOf : notGate a = signalOf (a = .low) := by cases a <;> rfl

theorem andGate_eq_signalOf : andGate a b = signalOf (a = .high ∧ b = .high) := by
  cases a <;> cases b <;> rfl

theorem orGate_eq_signalOf : orGate a b = signalOf (a = .high ∨ b = .high) := by
  cases a <;> cases b <;> rfl

theorem xorGate_eq_signalOf : xorGate a b = signalOf (a ≠ b) := by cases a <;> cases b <;> rfl

theorem muxGate_eq_ite : muxGate a b sel = if sel = .high then b else a := by
  cases a <;> cases b <;> cases sel <;> rfl

theorem dmuxGate_eq_signalOf :
    dmuxGate inp sel = ⟨signalOf (inp = .high ∧ sel = .low), signalOf (inp = .high ∧ sel = .high)⟩ := by
  cases inp <;> cases sel <;> rfl

end Gates

/-! ### The bus operations (spec/41_bus_ops.md) -/

section BusOps
variable {N : Width} (a b c d e f g h bus : Bus N) (inp sel sel1 sel2 sel3 : Signal)

/-- `not_n` complements the bit vector (R51). -/
@[simp] theorem notN_bv : (notN bus).bv = ~~~bus.bv := by
  apply BitVec.eq_of_getMsbD_eq
  intro i hi
  simp [Bus.bv_getMsbD, hi, notN_eq_map, notGate_eq_signalOf, signalOf_eq_high_iff, ← Signal.ne_high_iff]

/-- `and_n` is the bitwise AND of the bit vectors (R52). -/
@[simp] theorem andN_bv : (andN a b).bv = a.bv &&& b.bv := by
  apply BitVec.eq_of_getMsbD_eq
  intro i hi
  simp [Bus.bv_getMsbD, hi, andN_eq_zipWith, andGate_eq_signalOf, signalOf_eq_high_iff]

/-- `or_n` is the bitwise OR of the bit vectors (R53). -/
@[simp] theorem orN_bv : (orN a b).bv = a.bv ||| b.bv := by
  apply BitVec.eq_of_getMsbD_eq
  intro i hi
  simp [Bus.bv_getMsbD, hi, orN_eq_zipWith, orGate_eq_signalOf, signalOf_eq_high_iff]

@[simp] theorem muxN_bv : (muxN a b sel).bv = if sel = .high then b.bv else a.bv := by
  rw [muxN_eq_ite, apply_ite Bus.bv]

theorem orMWay_eq_foldl : orMWay bus = bus.wires.foldl orGate .low := foldNet_run _ _ _

theorem andMWay_eq_foldl : andMWay bus = bus.wires.foldl andGate .high := foldNet_run _ _ _

/-- `or_m_way` asks whether the value is not 0 (R55). -/
theorem orMWay_eq_signalOf : orMWay bus = signalOf (bus.val ≠ 0) := by
  rw [eq_signalOf_iff, orMWay_eq_foldl, foldl_orGate_eq_high_iff, Bus.val, Ne, numberOfSignals_eq_zero_iff]
  simp

/-- `and_m_way` asks whether the value is `2^N - 1` (R56). -/
theorem andMWay_eq_signalOf : andMWay bus = signalOf (bus.val = 2 ^ N.n - 1) := by
  rw [eq_signalOf_iff, andMWay_eq_foldl, foldl_andGate_eq_high_iff, Bus.val, ← bus.width_eq,
    numberOfSignals_eq_max_iff]
  simp

/-- The structure of `mux_4_way_n` (R57). -/
theorem mux4WayN_eq_muxN : mux4WayN a b c d sel1 sel2 = muxN (muxN a b sel1) (muxN c d sel1) sel2 := by
  apply Bus.ext_wires
  simp [mux4WayN, mux4WayNNet, muxN]

/-- The structure of `mux_8_way_n` (R58). -/
theorem mux8WayN_eq_muxN : mux8WayN a b c d e f g h sel1 sel2 sel3 =
    muxN (mux4WayN a b c d sel1 sel2) (mux4WayN e f g h sel1 sel2) sel3 := by
  apply Bus.ext_wires
  simp [mux8WayN, mux8WayNNet, mux4WayN, muxN]

/-- `mux_4_way_n` selects the input of its index (R57). -/
theorem mux4WayN_eq_getD : mux4WayN a b c d sel1 sel2 = [a, b, c, d].getD (index4 sel1 sel2) a := by
  rw [mux4WayN_eq_muxN]
  simp only [muxN_eq_ite]
  cases sel1 <;> cases sel2 <;> rfl

/-- `mux_8_way_n` selects the input of its index (R58). -/
theorem mux8WayN_eq_getD : mux8WayN a b c d e f g h sel1 sel2 sel3 =
    [a, b, c, d, e, f, g, h].getD (index8 sel1 sel2 sel3) a := by
  rw [mux8WayN_eq_muxN]
  simp only [mux4WayN_eq_getD, muxN_eq_ite]
  cases sel1 <;> cases sel2 <;> cases sel3 <;> rfl

end BusOps

section Dmux
variable (sel1Low : Bool) (inp sel1 sel2 sel3 : Signal)

/-- Output line `k` of `dmux_4_way`: the input where `k` is the index, `Low` elsewhere (R59). -/
def dmux4Line (k : Nat) : Signal := signalOf (inp = .high ∧ dmuxIndex4 sel1Low sel1 sel2 = k)

/-- Output line `k` of `dmux_8_way`: the input where `k` is the index, `Low` elsewhere (R60). -/
def dmux8Line (k : Nat) : Signal := signalOf (inp = .high ∧ dmuxIndex8 sel1Low sel1 sel2 sel3 = k)

/-- `dmux_4_way` under either reading of its index (R59). -/
theorem dmux4Way_eq_lines : dmux4Way sel1Low inp sel1 sel2 =
    let line := dmux4Line sel1Low inp sel1 sel2
    ⟨line 0, line 1, line 2, line 3⟩ := by
  cases sel1Low <;> cases inp <;> cases sel1 <;> cases sel2 <;> rfl

/-- `dmux_8_way` under either reading of its index (R60). -/
theorem dmux8Way_eq_lines : dmux8Way sel1Low inp sel1 sel2 sel3 =
    let line := dmux8Line sel1Low inp sel1 sel2 sel3
    ⟨line 0, line 1, line 2, line 3, line 4, line 5, line 6, line 7⟩ := by
  cases sel1Low <;> cases inp <;> cases sel1 <;> cases sel2 <;> cases sel3 <;> rfl

end Dmux

/-! ### The adders (spec/42_arithmetic.md) -/

section Adders
variable {N : Width} (busA busB bus : Bus N) (a b carryIn : Signal)

/-- `half_adder` counts its inputs (R65). -/
theorem halfAdder_eq_signalOf :
    halfAdder a b = ⟨signalOf ((a.bit + b.bit) % 2 = 1), signalOf (2 ≤ a.bit + b.bit)⟩ := by
  cases a <;> cases b <;> rfl

/-- `full_adder` counts its inputs (R66). -/
theorem fullAdder_eq_signalOf : fullAdder a b carryIn =
    ⟨signalOf ((a.bit + b.bit + carryIn.bit) % 2 = 1), signalOf (2 ≤ a.bit + b.bit + carryIn.bit)⟩ := by
  cases a <;> cases b <;> cases carryIn <;> rfl

/-- `n_adder` adds modulo `2^N` (R67). -/
theorem nAdder_val : (nAdder busA busB).val = (busA.val + busB.val) % 2 ^ N.n := by
  have hlen : busA.wires.length = busB.wires.length := by rw [busA.width_eq, busB.width_eq]
  rw [Bus.val, nAdder_wires, ripple_val _ _ _ hlen, busA.width_eq]
  rfl

/-- `n_incrementer` adds 1 modulo `2^N` (R68). -/
theorem nIncrementer_val : (nIncrementer bus).val = (bus.val + 1) % 2 ^ N.n := by
  have hlen : bus.wires.length = (Bus.allLow N).wires.length := by rw [bus.width_eq, Bus.width_eq]
  have hzero : numberOfSignals (Bus.allLow N).wires = 0 := by
    rw [show numberOfSignals (Bus.allLow N).wires = _ from Bus.val_fill N .low, Signal.bit, Nat.zero_mul]
  rw [Bus.val, nIncrementer_wires, ripple_val _ _ _ hlen, hzero, bus.width_eq]
  rfl

theorem nAdder_eq_ofInt : nAdder busA busB = Bus.ofInt N (busA.val + busB.val) := by
  apply Bus.ext_val
  rw [nAdder_val, ← Nat.cast_add, Bus.val_ofInt_natCast]

theorem nIncrementer_eq_ofInt : nIncrementer bus = Bus.ofInt N (bus.val + 1) := by
  apply Bus.ext_val
  rw [nIncrementer_val, ← Nat.cast_succ, Bus.val_ofInt_natCast]

@[simp] theorem nAdder_bv : (nAdder busA busB).bv = busA.bv + busB.bv := by
  apply BitVec.eq_of_toNat_eq
  simp [nAdder_val, BitVec.toNat_add]

end Adders

/-! PROOFS. The ALU as a function of bit vectors, stage by stage (spec/43_alu.md): `aluResultBV` is tied to the cell by
`aluWires_out_bv` and `alu_eq_aluResult`, to the functions of the control words by `aluResultBV_eq_apply` and to R83's
closed form by `aluResultBV_toNat`. -/

section AluStages
variable {n : Nat} (x y v : BitVec n) (zx nx zy ny f no z : Signal)

/-- A zero stage (R76, R78). -/
def zeroStageBV : BitVec n := if z = .high then 0 else v

/-- A negate stage (R77, R78, R80). -/
def negateStageBV : BitVec n := if no = .high then ~~~v else v

/-- The combination of the staged operands (R79). -/
def combineStageBV : BitVec n := if f = .high then x + y else x &&& y

@[simp] theorem zeroStageBV_low : zeroStageBV v .low = v := rfl
@[simp] theorem zeroStageBV_high : zeroStageBV v .high = 0 := rfl
@[simp] theorem negateStageBV_low : negateStageBV v .low = v := rfl
@[simp] theorem negateStageBV_high : negateStageBV v .high = ~~~v := rfl
@[simp] theorem combineStageBV_low : combineStageBV x y .low = x &&& y := rfl
@[simp] theorem combineStageBV_high : combineStageBV x y .high = x + y := rfl

/-- The result of the ALU (R76 to R80 in their order). -/
def aluResultBV : BitVec n :=
  negateStageBV
    (combineStageBV (negateStageBV (zeroStageBV x zx) nx) (negateStageBV (zeroStageBV y zy) ny) f) no

end AluStages

section Alu
variable {N : Width} (x y : Bus N) (zx nx zy ny f no : Signal)

theorem aluWires_x2_bv :
    (aluWires x y zx nx zy ny f no).x2.bv = negateStageBV (zeroStageBV x.bv zx) nx := by
  simp [aluWires_x2, aluWires_x1, negateStageBV, zeroStageBV]

theorem aluWires_y2_bv :
    (aluWires x y zx nx zy ny f no).y2.bv = negateStageBV (zeroStageBV y.bv zy) ny := by
  simp [aluWires_y2, aluWires_y1, negateStageBV, zeroStageBV]

theorem aluWires_o1_bv : (aluWires x y zx nx zy ny f no).o1.bv =
    combineStageBV (negateStageBV (zeroStageBV x.bv zx) nx) (negateStageBV (zeroStageBV y.bv zy) ny) f := by
  simp [aluWires_o1, aluWires_g, aluWires_s, aluWires_x2_bv, aluWires_y2_bv, combineStageBV]

theorem aluWires_out_bv :
    (aluWires x y zx nx zy ny f no).out.bv = aluResultBV x.bv y.bv zx nx zy ny f no := by
  simp [aluWires_out, aluWires_o1_bv, aluResultBV, negateStageBV]

/-- `zr` says that the result is zero (R81). -/
theorem alu_zr_eq_signalOf :
    (alu x y zx nx zy ny f no).zr = signalOf ((alu x y zx nx zy ny f no).out.bv = 0) := by
  rw [alu_zr, orMWay_eq_signalOf, notGate_eq_signalOf, eq_signalOf_iff, signalOf_eq_high_iff, signalOf_eq_low_iff,
    not_not, BitVec.toNat_eq, Bus.bv_toNat]
  simp

/-- `ng` is the sign bit of the result (R82). -/
theorem alu_ng_eq_signalOf :
    (alu x y zx nx zy ny f no).ng = signalOf ((alu x y zx nx zy ny f no).out.bv.msb = true) := by
  rw [alu_ng, eq_signalOf_iff, BitVec.msb_eq_getMsbD_zero, Bus.bv_getMsbD _ N.pos, decide_eq_true_iff]
  rfl

/-- An ALU evaluation outputs the staged result with its flags (R83, R85). -/
theorem alu_eq_aluResult :
    alu x y zx nx zy ny f no = aluResult (aluResultBV x.bv y.bv zx nx zy ny f no) := by
  have hout : (alu x y zx nx zy ny f no).out.bv = aluResultBV x.bv y.bv zx nx zy ny f no :=
    aluWires_out_bv x y zx nx zy ny f no
  have hzr := alu_zr_eq_signalOf x y zx nx zy ny f no
  have hng := alu_ng_eq_signalOf x y zx nx zy ny f no
  rw [hout] at hzr hng
  rw [aluResult, ← hzr, ← hng, ← hout, Bus.ofBV_bv]

end Alu

/-! ### The closed form (spec/43_alu.md R83) -/

section ClosedForm
variable {n : Nat} (x y v : BitVec n) (zx nx zy ny f no z : Signal)

theorem zeroStageBV_toNat : (zeroStageBV v z).toNat = if z = .high then 0 else v.toNat := by
  simp [zeroStageBV, apply_ite BitVec.toNat]

/-- Complementing is XOR with the number of all ones. -/
theorem negateStageBV_toNat : (negateStageBV v no).toNat = v.toNat ^^^ if no = .high then 2 ^ n - 1 else 0 := by
  have hnot : (~~~v).toNat = v.toNat ^^^ (2 ^ n - 1) := by
    rw [← BitVec.xor_allOnes, BitVec.toNat_xor, BitVec.toNat_allOnes]
  unfold negateStageBV
  split <;> simp [hnot]

theorem combineStageBV_toNat :
    (combineStageBV x y f).toNat = if f = .high then (x.toNat + y.toNat) % 2 ^ n else x.toNat &&& y.toNat := by
  simp [combineStageBV, apply_ite BitVec.toNat, BitVec.toNat_add]

/-- The staged result is the closed form as a number. -/
theorem aluResultBV_toNat :
    (aluResultBV x y zx nx zy ny f no).toNat = aluClosedForm n x.toNat y.toNat zx nx zy ny f no := by
  simp only [aluResultBV, aluClosedForm, negateStageBV_toNat, combineStageBV_toNat, zeroStageBV_toNat]

/-- The outputs for a result, read from it as a number. -/
theorem aluResult_eq_toNat {N : Width} (v : BitVec N.n) :
    aluResult v = ⟨.ofInt N v.toNat, signalOf (v.toNat = 0), signalOf (2 ^ (N.n - 1) ≤ v.toNat)⟩ := by
  simp [aluResult, Bus.ofBV, signalOf, BitVec.toNat_eq, BitVec.msb_eq_decide]

/-- The `alu` cell meets its closed form (R83). -/
theorem alu_eq_aluClosedOut {N : Width} (x y : Bus N) :
    alu x y zx nx zy ny f no = aluClosedOut x y zx nx zy ny f no := by
  rw [alu_eq_aluResult, aluResult_eq_toNat, aluResultBV_toNat, Bus.bv_toNat, Bus.bv_toNat]
  rfl

end ClosedForm

/-! ### The control words (spec/44_alu_functions.md) -/

section ControlWords
variable {n : Nat} (x y : BitVec n) (zx nx zy ny f no : Signal)

/-- The words with `f` `Low` compute the bitwise function of their row, by De Morgan's laws. -/
theorem aluResultBV_low_eq_apply {g : AluFunction}
    (h : aluFunctionOf (decodeControl zx nx zy ny .low no) = some g) :
    aluResultBV x y zx nx zy ny .low no = g.apply x y := by
  cases zx <;> cases nx <;> cases zy <;> cases ny <;> cases no <;> cases h <;>
    simp [aluResultBV, AluFunction.apply, BitVec.not_and, BitVec.not_or, BitVec.neg_one_eq_allOnes]

/-- The words with `f` `High` compute the arithmetic function of their row: a complement is `-v - 1` (R84). -/
theorem aluResultBV_high_eq_apply {g : AluFunction}
    (h : aluFunctionOf (decodeControl zx nx zy ny .high no) = some g) :
    aluResultBV x y zx nx zy ny .high no = g.apply x y := by
  have hnot (v : BitVec n) : ~~~v = -v - 1 := BitVec.not_eq_neg_add v
  cases zx <;> cases nx <;> cases zy <;> cases ny <;> cases no <;> cases h <;>
    simp only [aluResultBV, zeroStageBV_low, zeroStageBV_high, negateStageBV_low, negateStageBV_high,
      combineStageBV_high, AluFunction.apply, hnot] <;> ring

/-- Each control word computes the function that its row of the table names (R33, R100 to R163). -/
theorem aluResultBV_eq_apply {g : AluFunction}
    (h : aluFunctionOf (decodeControl zx nx zy ny f no) = some g) :
    aluResultBV x y zx nx zy ny f no = g.apply x y := by
  cases f with
  | low => exact aluResultBV_low_eq_apply x y zx nx zy ny no h
  | high => exact aluResultBV_high_eq_apply x y zx nx zy ny no h

/-- Every row of a control word has a function in the table. -/
theorem exists_aluFunctionOf_decodeControl : ∃ g, aluFunctionOf (decodeControl zx nx zy ny f no) = some g := by
  cases zx <;> cases nx <;> cases zy <;> cases ny <;> cases f <;> cases no <;> exact ⟨_, rfl⟩

/-- The outputs that the spec gives a row with a function are the function's value and its flags. -/
theorem specOutputs_of_aluFunctionOf (c : Config) (p : Inputs c.width) {i : Instr} {g : AluFunction}
    (h : aluFunctionOf i = some g) : specOutputs c p i = .alu (aluResult (g.apply p.bus.x.bv p.bus.y.bv)) := by
  cases i <;> cases h <;> rfl

theorem exec_decodeControl (s : State) :
    exec (decodeControl zx nx zy ny f no) s = s.evaluateWord zx nx zy ny f no := by
  cases zx <;> cases nx <;> cases zy <;> cases ny <;> cases f <;> cases no <;> rfl

/-- The evaluation of a control word outputs what the spec says (R100 to R163). -/
theorem exec_decodeControl_eq_specOutputs (s : State) :
    exec (decodeControl zx nx zy ny f no) s =
      .next (s.withOutputs (specOutputs s.config s.inputs (decodeControl zx nx zy ny f no))) := by
  obtain ⟨g, hg⟩ := exists_aluFunctionOf_decodeControl zx nx zy ny f no
  rw [exec_decodeControl, State.evaluateWord_eq, alu_eq_aluResult, aluResultBV_eq_apply _ _ _ _ _ _ _ _ hg,
    specOutputs_of_aluFunctionOf _ _ hg]

end ControlWords

/-! PROOFS. Every evaluation outputs what the spec says of it, and so every step (spec/00_scope.md R6, R7). -/

section Evaluation
variable (s : State)

/-- Emitting answers the state that carries any outputs equal to the emitted ones. -/
theorem State.emit_of_eq {o o' : Outputs s.config.width} (h : o = o') : s.emit o = .next (s.withOutputs o') :=
  (s.emit_eq_next_iff _ _).mpr (congrArg s.withOutputs h.symm)

/-- The evaluation of a placed cell outputs what the spec says (R40 to R46, R51 to R60, R65 to R68, R83). -/
theorem exec_decodeCell_eq_specOutputs (c : Cell) :
    exec (decodeCell c) s = .next (s.withOutputs (specOutputs s.config s.inputs (decodeCell c))) := by
  cases c with
  | nand => exact s.emit_of_eq (congrArg Outputs.signal (nandGate_eq_signalOf _ _))
  | not => exact s.emit_of_eq (congrArg Outputs.signal (notGate_eq_signalOf _))
  | and => exact s.emit_of_eq (congrArg Outputs.signal (andGate_eq_signalOf _ _))
  | or => exact s.emit_of_eq (congrArg Outputs.signal (orGate_eq_signalOf _ _))
  | xor => exact s.emit_of_eq (congrArg Outputs.signal (xorGate_eq_signalOf _ _))
  | mux => exact s.emit_of_eq (congrArg Outputs.signal (muxGate_eq_ite _ _ _))
  | dmux => exact s.emit_of_eq (congrArg Outputs.dmux (dmuxGate_eq_signalOf _ _))
  | notN => exact s.emit_of_eq (congrArg Outputs.bus ((Bus.eq_ofBV_iff _ _).mpr (notN_bv _)))
  | andN => exact s.emit_of_eq (congrArg Outputs.bus ((Bus.eq_ofBV_iff _ _).mpr (andN_bv _ _)))
  | orN => exact s.emit_of_eq (congrArg Outputs.bus ((Bus.eq_ofBV_iff _ _).mpr (orN_bv _ _)))
  | muxN => exact s.emit_of_eq (congrArg Outputs.bus (muxN_eq_ite _ _ _))
  | orMWay => exact s.emit_of_eq (congrArg Outputs.signal (orMWay_eq_signalOf _))
  | andMWay => exact s.emit_of_eq (congrArg Outputs.signal (andMWay_eq_signalOf _))
  | mux4WayN => exact s.emit_of_eq (congrArg Outputs.bus (mux4WayN_eq_getD _ _ _ _ _ _))
  | mux8WayN => exact s.emit_of_eq (congrArg Outputs.bus (mux8WayN_eq_getD _ _ _ _ _ _ _ _ _ _ _))
  | dmux4Way => exact s.emit_of_eq (congrArg Outputs.dmux4 (dmux4Way_eq_lines _ _ _ _))
  | dmux8Way => exact s.emit_of_eq (congrArg Outputs.dmux8 (dmux8Way_eq_lines _ _ _ _ _))
  | halfAdder => exact s.emit_of_eq (congrArg Outputs.halfAdder (halfAdder_eq_signalOf _ _))
  | fullAdder => exact s.emit_of_eq (congrArg Outputs.fullAdder (fullAdder_eq_signalOf _ _ _))
  | nAdder => exact s.emit_of_eq (congrArg Outputs.bus (nAdder_eq_ofInt _ _))
  | nIncrementer => exact s.emit_of_eq (congrArg Outputs.bus (nIncrementer_eq_ofInt _))
  | alu => exact s.emit_of_eq (congrArg Outputs.alu (alu_eq_aluClosedOut _ _ _ _ _ _ _ _))

/-- The decoder reads back what the encoder writes (R33, R38). -/
theorem decode_encode (i : Instr) : decode (encode i) = .ok i := by
  cases i <;> rfl

/-- The decoder gives the row of six signals or of a placed cell, and no other (R30, R38). -/
theorem decode_eq_ok_cases {sel : Selector} {i : Instr} (h : decode sel = .ok i) :
    (∃ zx nx zy ny f no, i = decodeControl zx nx zy ny f no) ∨ ∃ c, i = decodeCell c := by
  unfold decode at h
  split at h
  next zx nx zy ny f no => exact .inl ⟨zx, nx, zy, ny, f, no, by cases h; rfl⟩
  next => cases h
  next c => exact .inr ⟨c, by cases h; rfl⟩

/-- A row of the table is the row of a control word or of a placed cell (R29, R38). -/
theorem instr_eq_decodeControl_or_decodeCell (i : Instr) :
    (∃ zx nx zy ny f no, i = decodeControl zx nx zy ny f no) ∨ ∃ c, i = decodeCell c :=
  decode_eq_ok_cases (decode_encode i)

/-- Every evaluation outputs what the spec says and has no other effect. -/
theorem exec_eq_specOutputs (i : Instr) :
    exec i s = .next (s.withOutputs (specOutputs s.config s.inputs i)) := by
  obtain ⟨zx, nx, zy, ny, f, no, rfl⟩ | ⟨c, rfl⟩ := instr_eq_decodeControl_or_decodeCell i
  · exact exec_decodeControl_eq_specOutputs zx nx zy ny f no s
  · exact exec_decodeCell_eq_specOutputs s c

theorem step_of_requested {i : Instr} (h : s.requested = .ok i) : step s = exec i s := by
  rw [step, h]

/-- A step that answers a state is the requested evaluation with the outputs that the spec gives it. -/
theorem step_eq_next_iff (t : State) :
    step s = .next t ↔ ∃ i, s.requested = .ok i ∧ t = s.withOutputs (specOutputs s.config s.inputs i) := by
  cases h : s.requested with
  | error r => simp [step, h]
  | ok i => simp [step_of_requested s h, exec_eq_specOutputs, eq_comm]

/-- The outputs that the spec gives the requested evaluation are settled ones. -/
theorem State.settled_withOutputs_specOutputs {i : Instr} (h : s.requested = .ok i) :
    (s.withOutputs (specOutputs s.config s.inputs i)).Settled := by
  rintro o ⟨⟩
  exact ⟨i, h, rfl⟩

theorem State.settled_of_outputs_eq_none (h : s.outputs = none) : s.Settled := by
  intro o ho
  rw [h] at ho
  cases ho

end Evaluation

/-- Settles O11: a step answers the requested evaluation's specified outputs (`step_eq_next_iff`), which are settled. -/
theorem stepLeavesOutputsSettled : Obligations.StepLeavesOutputsSettled := by
  intro s t _ hstep
  obtain ⟨i, hi, rfl⟩ := (step_eq_next_iff s t).mp hstep
  exact ⟨s.settled_withOutputs_specOutputs hi, by simp⟩

/-- Settles O5: what the request decodes to is what is asked for. -/
theorem stepRunsTheRequestedEvaluation : Obligations.StepRunsTheRequestedEvaluation := by
  intro s sel i hsel hdec
  exact step_of_requested s ((s.requested_eq_ok_iff i).mpr ⟨sel, hsel, hdec⟩)

/-- Settles O12: the reset state carries the reference parameters and no outputs, so there is nothing to settle. -/
theorem resetIsSettled : Obligations.ResetIsSettled :=
  ⟨rfl, rfl, rfl, rfl, State.reset.settled_of_outputs_eq_none rfl⟩

end Sys2Proof.Machine

namespace Sys2Proof.Machine

/-! PROOFS. Which evaluations have flags (spec/10_state.md R17), and what a step refuses and leaves unchanged. -/

/-- The encoder writes back the six signals of a control word (R30, R33). -/
theorem encode_decodeControl (zx nx zy ny f no : Signal) :
    encode (decodeControl zx nx zy ny f no) = .word [zx, nx, zy, ny, f, no] := by
  cases zx <;> cases nx <;> cases zy <;> cases ny <;> cases f <;> cases no <;> rfl

/-- The encoder names a placed cell by its placement (R35, R38). -/
theorem encode_decodeCell (c : Cell) : encode (decodeCell c) = .placed c := by
  cases c <;> rfl

/-- The rows that a control word selects are the decoder's rows of six signals (R30, R33). -/
theorem isControlWord_iff (i : Instr) :
    isControlWord i ↔ ∃ zx nx zy ny f no, i = decodeControl zx nx zy ny f no := by
  constructor
  · rintro ⟨w, hw⟩
    obtain hword | ⟨c, rfl⟩ := instr_eq_decodeControl_or_decodeCell i
    · exact hword
    · cases (encode_decodeCell c).symm.trans hw
  · rintro ⟨zx, nx, zy, ny, f, no, rfl⟩
    exact ⟨_, encode_decodeControl zx nx zy ny f no⟩

section Flags
variable {N : Width} (o : Outputs N)

theorem Outputs.zr?_isSome_iff : o.zr?.isSome ↔ ∃ r, o = .alu r := by
  cases o <;> simp [Outputs.zr?]

theorem Outputs.ng?_isSome_iff : o.ng?.isSome ↔ ∃ r, o = .alu r := by
  cases o <;> simp [Outputs.ng?]

end Flags

/-- The `alu` cell and the control words are evaluated as the ALU under some word (R29, R37). -/
theorem exec_eq_evaluateWord {i : Instr} (h : i = .alu ∨ isControlWord i) (s : State) :
    ∃ zx nx zy ny f no, exec i s = s.evaluateWord zx nx zy ny f no := by
  obtain rfl | hword := h
  · exact ⟨_, _, _, _, _, _, rfl⟩
  · obtain ⟨zx, nx, zy, ny, f, no, rfl⟩ := (isControlWord_iff i).mp hword
    exact ⟨zx, nx, zy, ny, f, no, exec_decodeControl zx nx zy ny f no s⟩

/-- No other cell has the outputs of the ALU (R17). -/
theorem specOutputs_ne_alu (c : Config) (p : Inputs c.width) {i : Instr} (h : ¬(i = .alu ∨ isControlWord i))
    (r : AluOut c.width) : specOutputs c p i ≠ .alu r := by
  obtain ⟨halu, hword⟩ := not_or.mp h
  obtain hctl | ⟨cell, rfl⟩ := instr_eq_decodeControl_or_decodeCell i
  · exact absurd ((isControlWord_iff i).mpr hctl) hword
  · cases cell with
    | alu => exact absurd rfl halu
    | _ => nofun

/-- Settles O44: an ALU evaluation outputs the flags of its own result (`alu_zr`, `alu_ng`); no other cell has the
ALU's outputs (`specOutputs_ne_alu`). -/
theorem flagsComeFromTheAluAlone : Obligations.FlagsComeFromTheAluAlone := by
  intro i s
  by_cases h : i = .alu ∨ isControlWord i
  · obtain ⟨zx, nx, zy, ny, f, no, hexec⟩ := exec_eq_evaluateWord h s
    refine ⟨_, hexec.trans (s.evaluateWord_eq zx nx zy ny f no), iff_of_true rfl h, iff_of_true rfl h, ?_⟩
    rintro r ⟨⟩
    exact ⟨alu_zr .., alu_ng ..⟩
  · have hne := specOutputs_ne_alu s.config s.inputs h
    refine ⟨_, exec_eq_specOutputs s i, ?_, ?_, fun r hr => absurd hr (hne r)⟩
    · simp [Outputs.zr?_isSome_iff, hne, h]
    · simp [Outputs.ng?_isSome_iff, hne, h]

/-- The decoder refuses a word of another length than six, with that length (R30, R35). -/
theorem decode_word_of_length_ne_six {signals : List Signal} (h : signals.length ≠ 6) :
    decode (.word signals) = .error (.notSixSignals signals.length) := by
  unfold decode
  split
  next heq => cases heq; exact absurd rfl h
  next heq => cases heq; rfl
  next heq => cases heq

section Step
variable (s : State)

theorem State.requested_of_request_eq_none (h : s.request = none) : s.requested = .error .noEvaluation := by
  rw [State.requested, h]

theorem State.requested_of_decode_eq_error {sel : Selector} {n : Nat} (hsel : s.request = some sel)
    (hdec : decode sel = .error (.notSixSignals n)) : s.requested = .error (.notAControlWord n) := by
  simp only [State.requested, hsel, hdec]

theorem step_of_requested_eq_error {r : Refusal} (h : s.requested = .error r) : step s = .refused r := by
  rw [step, h]

end Step

/-- Settles O6: a step refuses what the request refuses, and an evaluation always answers (`step_eq_next_iff`). -/
theorem stepRefusesWhatIsNoEvaluation : Obligations.StepRefusesWhatIsNoEvaluation := by
  refine ⟨fun s hnone => ?_, fun s signals hsel hlen => ?_, fun s sel i hsel hdec => ?_⟩
  · exact step_of_requested_eq_error s (s.requested_of_request_eq_none hnone)
  · exact step_of_requested_eq_error s (s.requested_of_decode_eq_error hsel (decode_word_of_length_ne_six hlen))
  · exact ⟨_, (step_eq_next_iff s _).mpr ⟨i, (s.requested_eq_ok_iff i).mpr ⟨sel, hsel, hdec⟩, rfl⟩⟩

/-- Settles O8: a step that answers is the state before with the requested evaluation's outputs in place. -/
theorem stepWritesOnlyOutputs : Obligations.StepWritesOnlyOutputs := by
  intro s t hstep
  obtain ⟨i, -, rfl⟩ := (step_eq_next_iff s t).mp hstep
  exact ⟨specOutputs s.config s.inputs i, rfl⟩

end Sys2Proof.Machine

namespace Sys2Proof.Machine

/-! PROOFS. No evaluation observes an earlier one, and a repeated one changes nothing (spec/20_memory.md R26, R27). -/

section History
variable (s : State) (i : Instr)

/-- Whatever the request and the outputs held, an evaluation leaves the request and puts the outputs that the spec
gives the parameters and the input ports (R27, R190). -/
theorem exec_of_any_request_and_outputs (sel : Option Selector) (o : Option (Outputs s.config.width)) :
    exec i { config := s.config, request := sel, inputs := s.inputs, outputs := o } =
      .next { config := s.config, request := sel, inputs := s.inputs,
              outputs := some (specOutputs s.config s.inputs i) } :=
  exec_eq_specOutputs _ i

/-- An evaluation reads no outputs. -/
theorem exec_of_any_outputs (o : Option (Outputs s.config.width)) :
    exec i { config := s.config, request := s.request, inputs := s.inputs, outputs := o } = exec i s :=
  (exec_of_any_request_and_outputs s i s.request o).trans (exec_eq_specOutputs s i).symm

end History

/-- Settles O9: an evaluation writes the outputs alone (`exec_eq_specOutputs`), which the next one does not read
(`exec_of_any_outputs`). -/
theorem outputsDoNotDependOnHistory : Obligations.OutputsDoNotDependOnHistory := by
  refine ⟨fun i j s t hexec => ?_, fun i s o => exec_of_any_outputs s i o, fun i s sel => ?_⟩
  · have ht : s.withOutputs (specOutputs s.config s.inputs i) = t := by
      simpa [exec_eq_specOutputs] using hexec
    subst ht
    exact exec_of_any_outputs s j _
  · exact ⟨_, exec_eq_specOutputs s i, exec_of_any_request_and_outputs s i sel s.outputs⟩

/-- Settles O10: the state after a step asks for the same evaluation of the same inputs, whose outputs it carries
already (`State.withOutputs_withOutputs`). -/
theorem repeatedStepChangesNothing : Obligations.RepeatedStepChangesNothing := by
  intro s t hstep
  obtain ⟨i, hi, rfl⟩ := (step_eq_next_iff s t).mp hstep
  exact (step_eq_next_iff _ _).mpr ⟨i, hi, (s.withOutputs_withOutputs _ _).symm⟩

end Sys2Proof.Machine

namespace Sys2Proof.Machine

/-! PROOFS. The encoding (spec/30_encoding.md): selectors, the words of the opcode table and their numbers. -/

/-- What decodes to a row is that row's encoding: six signals are its word, a placed cell its placement (R30, R38). -/
theorem eq_encode_of_decode_eq_ok {r : Selector} {i : Instr} (h : decode r = .ok i) : r = encode i := by
  unfold decode at h
  split at h
  next zx nx zy ny f no => cases h; exact (encode_decodeControl zx nx zy ny f no).symm
  next => cases h
  next c => cases h; exact (encode_decodeCell c).symm

/-- Encoding and decoding are inverse to each other (R30, R33, R38). -/
theorem decode_eq_ok_iff (r : Selector) (i : Instr) : decode r = .ok i ↔ r = encode i := by
  constructor
  · exact eq_encode_of_decode_eq_ok
  · rintro rfl
    exact decode_encode i

/-- Settles O2: what a selector decodes to encodes back to it, and the decoder reads every encoding. -/
theorem decodeReadsExactlyWhatEncodeWrites : Obligations.DecodeReadsExactlyWhatEncodeWrites :=
  decode_eq_ok_iff

/-- A word of signals decodes exactly when it is six signals long (R30, R34). -/
theorem exists_decode_word_iff (signals : List Signal) :
    (∃ i, decode (.word signals) = .ok i) ↔ signals.length = 6 := by
  constructor
  · rintro ⟨i, hi⟩
    by_contra hlen
    cases (decode_word_of_length_ne_six hlen).symm.trans hi
  · intro hlen
    match signals, hlen with
    | [zx, nx, zy, ny, f, no], _ => exact ⟨decodeControl zx nx zy ny f no, rfl⟩

section TableWords
variable {w : Nat}

theorem decodeTableWord_eq_some_iff (nbits : Nat) (i : Instr) :
    decodeTableWord nbits w = some i ↔ decode (.word (tableSignals nbits w)) = .ok i := by
  unfold decodeTableWord
  cases decode (.word (tableSignals nbits w)) <;> simp

/-- The byte of a number below 64 offers its low six bits (R30). -/
theorem tableSignals_of_lt (h : w < 64) : tableSignals 8 w = signalsOfNumber 6 w := by
  simp [tableSignals, h]

/-- A byte with a padding bit set offers all of its bits (notes/assumptions/9.md). -/
theorem tableSignals_of_le (h : 64 ≤ w) : tableSignals 8 w = signalsOfNumber 8 w := by
  simp [tableSignals, h.not_gt]

theorem tableSignals_length_eq_six_iff : (tableSignals 8 w).length = 6 ↔ w < 64 := by
  obtain h | h := lt_or_ge w 64
  · simp [tableSignals_of_lt h, signalsOfNumber_length, h]
  · simp [tableSignals_of_le h, signalsOfNumber_length, h]

/-- The number of six signals is the table word that offers them (R30). -/
theorem tableSignals_numberOfSignals {signals : List Signal} (h : signals.length = 6) :
    tableSignals 8 (numberOfSignals signals) = signals := by
  have hlt : numberOfSignals signals < 2 ^ 6 := h ▸ numberOfSignals_lt signals
  rw [tableSignals_of_lt hlt, ← h, signalsOfNumber_numberOfSignals]

end TableWords

/-- Settles O3: the packed number is the number of the six signals, and the table word of that number offers them
again (`tableSignals_numberOfSignals`). -/
theorem controlWordNumberSelectsItsRow : Obligations.ControlWordNumberSelectsItsRow := by
  intro zx nx zy ny f no
  have hnumber : 32 * zx.bit + 16 * nx.bit + 8 * zy.bit + 4 * ny.bit + 2 * f.bit + no.bit =
      numberOfSignals [zx, nx, zy, ny, f, no] := by
    simp [numberOfSignals]
    omega
  refine ⟨decodeControl zx nx zy ny f no, ?_, encode_decodeControl zx nx zy ny f no⟩
  rw [hnumber, decodeTableWord_eq_some_iff, tableSignals_numberOfSignals rfl]
  rfl

/-- Settles O4: a word decodes exactly when it is six signals long (`exists_decode_word_iff`), and the byte of a number
offers six signals exactly when the number is below 64 (`tableSignals_length_eq_six_iff`). -/
theorem everySixBitValueDecodes : Obligations.EverySixBitValueDecodes := by
  refine ⟨fun w => ?_, fun signals => ⟨fun hlen => ?_, decode_word_of_length_ne_six⟩⟩
  · simp only [decodeTableWord_eq_some_iff, exists_decode_word_iff, tableSignals_length_eq_six_iff]
  · obtain ⟨i, hi⟩ := (exists_decode_word_iff signals).mpr hlen
    exact ⟨i, hi, signals, (eq_encode_of_decode_eq_ok hi).symm⟩

/-- The row that a control word encodes is the one that its signals select (R30). -/
theorem eq_decodeControl_of_encode_eq {i : Instr} {zx nx zy ny f no : Signal}
    (h : encode i = .word [zx, nx, zy, ny, f, no]) : i = decodeControl zx nx zy ny f no :=
  (Except.ok.inj (h ▸ decode_encode i)).symm

/-- Settles O42: a control-word row evaluates the ALU under its own six signals (`exec_decodeControl`), and so does the
`alu` cell when they stand at its control inputs. -/
theorem controlWordIsTheAluUnderThatWord : Obligations.ControlWordIsTheAluUnderThatWord := by
  refine fun i s => ⟨fun hencode => ?_, fun hword c => ?_⟩
  · rw [eq_decodeControl_of_encode_eq hencode, exec_decodeControl]
    rfl
  · obtain ⟨zx, nx, zy, ny, f, no, rfl⟩ := (isControlWord_iff i).mp hword
    exact ⟨_, exec_decodeControl zx nx zy ny f no s, exec_decodeControl zx nx zy ny f no _⟩

end Sys2Proof.Machine

namespace Sys2Proof.Machine

/-! PROOFS. The 32 functions of the control words (spec/30_encoding.md R33). Every one of them commutes with truncation,
so functions that differ at width 2 differ at every greater width; at width 2 three operand pairs tell all 32 apart. -/

section Truncation
variable {m n : Nat} (x y : BitVec n)

theorem setWidth_sub_of_le (h : m ≤ n) : (x - y).setWidth m = x.setWidth m - y.setWidth m := by
  rw [BitVec.sub_eq_add_neg, BitVec.setWidth_add _ _ h, BitVec.setWidth_neg_of_le h, ← BitVec.sub_eq_add_neg]

/-- The low bits of a result are the result on the low bits of the operands. -/
theorem AluFunction.apply_setWidth (f : AluFunction) (h : m ≤ n) :
    (f.apply x y).setWidth m = f.apply (x.setWidth m) (y.setWidth m) := by
  cases f <;>
    simp [AluFunction.apply, BitVec.setWidth_add, BitVec.setWidth_neg_of_le, BitVec.setWidth_not,
      setWidth_sub_of_le, BitVec.setWidth_ofNat_of_le, h]

end Truncation

/-- The values at width 2 on the operand pairs (0, 1), (1, 0) and (1, 3). -/
def AluFunction.signature (f : AluFunction) : List (BitVec 2) := [f.apply 0 1, f.apply 1 0, f.apply 1 3]

/-- The 32 functions of R33. -/
def AluFunction.all : List AluFunction :=
  [.zero, .minusOne, .x, .notX, .y, .notY,
    .one, .minusTwo, .negX, .negY, .xPlus1, .yPlus1, .xMinus1, .yMinus1, .negXMinus2, .negYMinus2,
    .xPlusY, .xMinusY, .yMinusX, .xPlusYPlus1, .xMinusYMinus1, .yMinusXMinus1, .negXMinusYMinus1, .negXMinusYMinus2,
    .xAndY, .xOrY, .xNandY, .xNorY, .xAndNotY, .notXAndY, .xOrNotY, .notXOrY]

theorem AluFunction.mem_all (f : AluFunction) : f ∈ all := by
  cases f <;> decide

/-- A function is determined by its three values. -/
theorem AluFunction.signature_injective : Function.Injective signature := by
  have hnodup : (all.map signature).Nodup := by decide
  intro f g h
  exact List.inj_on_of_nodup_map hnodup f.mem_all g.mem_all h

/-- Two different functions differ at every width of at least 2. -/
theorem AluFunction.exists_apply_ne {f g : AluFunction} (hfg : f ≠ g) {n : Nat} (hn : 2 ≤ n) :
    ∃ x y : BitVec n, f.apply x y ≠ g.apply x y := by
  by_contra! hsame
  have hsame2 : ∀ x y : BitVec 2, f.apply x y = g.apply x y := by
    intro x y
    have h := congrArg (BitVec.setWidth 2) (hsame (x.setWidth n) (y.setWidth n))
    simpa [AluFunction.apply_setWidth _ _ _ hn, BitVec.setWidth_setWidth_of_le _ hn] using h
  exact hfg (signature_injective (by simp only [signature, hsame2]))

/-- A placed cell has no function of the table. -/
theorem aluFunctionOf_decodeCell (c : Cell) : aluFunctionOf (decodeCell c) = none := by
  cases c <;> rfl

theorem not_isControlWord_decodeCell (c : Cell) : ¬isControlWord (decodeCell c) := by
  rintro ⟨w, hw⟩
  cases (encode_decodeCell c).symm.trans hw

/-- The rows with a function are the control words (R33). -/
theorem aluFunctionOf_isSome_iff (i : Instr) : (aluFunctionOf i).isSome ↔ isControlWord i := by
  obtain ⟨zx, nx, zy, ny, f, no, rfl⟩ | ⟨c, rfl⟩ := instr_eq_decodeControl_or_decodeCell i
  · have hword : isControlWord (decodeControl zx nx zy ny f no) := ⟨_, encode_decodeControl zx nx zy ny f no⟩
    exact iff_of_true (Option.isSome_iff_exists.mpr (exists_aluFunctionOf_decodeControl zx nx zy ny f no)) hword
  · simp [aluFunctionOf_decodeCell, not_isControlWord_decodeCell]

/-- How many of the 64 table words compute each function (R33). -/
theorem AluFunction.count_tableWords (f : AluFunction) :
    ((List.range 64).filter (fun w => (decodeTableWord 8 w).bind aluFunctionOf = some f)).length =
      if f = .zero ∨ f = .minusOne then 11 else if f = .x ∨ f = .notX ∨ f = .y ∨ f = .notY then 4 else 1 := by
  cases f <;> rfl

/-- The canonical word of a function is a word of that function (R33, D18). -/
theorem AluFunction.aluFunctionOf_canonicalWord {f : AluFunction} {i : Instr} (h : f.canonicalWord = some i) :
    aluFunctionOf i = some f := by
  cases f <;> cases h <;> rfl

/-- Settles O52: each word computes its row's function (`specOutputs_of_aluFunctionOf`), and the 32 functions are told
apart at width 2 (`AluFunction.signature_injective`), so at every greater width. -/
theorem thirtyTwoFunctions : Obligations.ThirtyTwoFunctions := by
  refine ⟨fun i f hf s => ?_, aluFunctionOf_isSome_iff, fun f g hfg n hn => AluFunction.exists_apply_ne hfg hn,
    AluFunction.count_tableWords, fun f i => AluFunction.aluFunctionOf_canonicalWord⟩
  rw [exec_eq_specOutputs, specOutputs_of_aluFunctionOf _ _ hf]

end Sys2Proof.Machine

namespace Sys2Proof.Machine

/-! PROOFS. The single-bit gates (spec/40_gates.md): their truth tables and structures, and the laws that follow from
what they compute. A law of `and`, `or` and `xor` is one about when their outputs are `High`; a law of `mux` and `dmux`
follows for either value of the selector, which makes the gate a wire. -/

/-- A signal is determined by whether it is `High` (R10). -/
theorem signal_eq_of_high_iff {a b : Signal} (h : a = .high ↔ b = .high) : a = b := by
  cases a <;> cases b <;> simp at h ⊢

section Tables
variable (a b inp sel : Signal)

theorem nandGate_eq_ite : nandGate a b = if a = .high ∧ b = .high then .low else .high := by
  rw [nandGate_eq_signalOf, signalOf, ite_not]

@[simp] theorem notGate_eq_high_iff : notGate a = .high ↔ a = .low := by
  rw [notGate_eq_signalOf, signalOf_eq_high_iff]

@[simp] theorem andGate_eq_high_iff : andGate a b = .high ↔ a = .high ∧ b = .high := by
  rw [andGate_eq_signalOf, signalOf_eq_high_iff]

@[simp] theorem orGate_eq_high_iff : orGate a b = .high ↔ a = .high ∨ b = .high := by
  rw [orGate_eq_signalOf, signalOf_eq_high_iff]

@[simp] theorem xorGate_eq_high_iff : xorGate a b = .high ↔ a ≠ b := by
  rw [xorGate_eq_signalOf, signalOf_eq_high_iff]

theorem xorGate_eq_ite : xorGate a b = if a = b then .low else .high := by
  rw [xorGate_eq_signalOf, signalOf, ite_not]

@[simp] theorem muxGate_low : muxGate a b .low = a := muxGate_eq_ite a b .low

@[simp] theorem muxGate_high : muxGate a b .high = b := muxGate_eq_ite a b .high

theorem muxGate_eq_ite_low : muxGate a b sel = if sel = .low then a else b := by
  cases sel with
  | low => exact muxGate_low a b
  | high => exact muxGate_high a b

@[simp] theorem dmuxGate_sel_low : dmuxGate inp .low = ⟨inp, .low⟩ := by
  cases inp <;> rfl

@[simp] theorem dmuxGate_sel_high : dmuxGate inp .high = ⟨.low, inp⟩ := by
  cases inp <;> rfl

theorem dmuxGate_eq_ite : dmuxGate inp sel = if sel = .low then ⟨inp, .low⟩ else ⟨.low, inp⟩ := by
  cases sel with
  | low => exact dmuxGate_sel_low inp
  | high => exact dmuxGate_sel_high inp

end Tables

section Laws
variable (a b inp sel : Signal)

theorem nandGate_self : nandGate a a = if a = .high then .low else .high := by
  simp [nandGate_eq_ite]

theorem nandGate_comm : nandGate a b = nandGate b a := by
  simp [nandGate_eq_ite, and_comm]

theorem andGate_self : andGate a a = a := signal_eq_of_high_iff (by simp)

theorem andGate_comm : andGate a b = andGate b a := signal_eq_of_high_iff (by simp [and_comm])

@[simp] theorem orGate_low : orGate a .low = a := signal_eq_of_high_iff (by simp)

@[simp] theorem low_orGate : orGate .low a = a := signal_eq_of_high_iff (by simp)

theorem orGate_comm : orGate a b = orGate b a := signal_eq_of_high_iff (by simp [or_comm])

theorem xorGate_self : xorGate a a = .low := by simp [xorGate_eq_ite]

@[simp] theorem xorGate_low : xorGate a .low = a := signal_eq_of_high_iff (by simp [← Signal.ne_high_iff])

@[simp] theorem xorGate_high : xorGate a .high = notGate a :=
  signal_eq_of_high_iff (by simp [Signal.ne_high_iff])

theorem xorGate_comm : xorGate a b = xorGate b a := signal_eq_of_high_iff (by simp [ne_comm])

theorem muxGate_self : muxGate a a sel = a := by simp [muxGate_eq_ite]

/-- The multiplexer of a signal and its complement is the exclusive or with the selector (R45, R77). -/
theorem muxGate_notGate : muxGate a (notGate a) sel = xorGate a sel := by
  cases sel <;> simp

theorem dmuxGate_low : dmuxGate .low sel = ⟨.low, .low⟩ := by simp [dmuxGate_eq_ite]

theorem dmuxGate_not_both_high : ¬((dmuxGate inp sel).outA = .high ∧ (dmuxGate inp sel).outB = .high) := by
  cases sel <;> simp

theorem orGate_dmuxGate : orGate (dmuxGate inp sel).outA (dmuxGate inp sel).outB = inp := by
  cases sel <;> simp

/-- The demultiplexer and then the multiplexer under the same selector give the input back (R46). -/
theorem muxGate_dmuxGate : muxGate (dmuxGate inp sel).outA (dmuxGate inp sel).outB sel = inp := by
  cases sel <;> simp

end Laws

/-- Settles O13: the evaluation emits the gate's output, which `nandGate_eq_ite` reads off its truth table. -/
theorem nandExecutes : Obligations.NandExecutes :=
  ⟨fun s => s.emit_of_eq (congrArg Outputs.signal (nandGate_eq_ite _ _)), nandGate_self, nandGate_comm⟩

/-- Settles O14: the netlist is one NAND by definition, and `notGate_eq_signalOf` says what it computes. -/
theorem notExecutes : Obligations.NotExecutes :=
  ⟨fun _ => rfl, fun _ => ⟨rfl, rfl⟩, fun s => s.emit_of_eq (congrArg Outputs.signal (notGate_eq_signalOf _))⟩

/-- Settles O15: the netlist is the spec's by definition, and `andGate_eq_signalOf` says what it computes. -/
theorem andExecutes : Obligations.AndExecutes :=
  ⟨fun _ _ => rfl, fun s => s.emit_of_eq (congrArg Outputs.signal (andGate_eq_signalOf _ _))⟩

/-- Settles O16: the netlist is the spec's by definition, and `orGate_eq_signalOf` says what it computes. -/
theorem orExecutes : Obligations.OrExecutes :=
  ⟨fun _ _ => rfl, fun s => s.emit_of_eq (congrArg Outputs.signal (orGate_eq_signalOf _ _))⟩

/-- Settles O17: the netlist is the spec's by definition, and `xorGate_eq_ite` says what it computes. -/
theorem xorExecutes : Obligations.XorExecutes :=
  ⟨fun _ _ => rfl, fun s => s.emit_of_eq (congrArg Outputs.signal (xorGate_eq_ite _ _))⟩

/-- Settles O18: the netlist is the spec's by definition, and `muxGate_eq_ite_low` says which input it selects. -/
theorem muxExecutes : Obligations.MuxExecutes :=
  ⟨fun _ _ _ => rfl, fun s => s.emit_of_eq (congrArg Outputs.signal (muxGate_eq_ite_low _ _ _))⟩

/-- Settles O19: the netlist is the spec's by definition, and `dmuxGate_eq_ite` says where it routes its input. -/
theorem dmuxExecutes : Obligations.DmuxExecutes :=
  ⟨fun _ _ => rfl, fun s => s.emit_of_eq (congrArg Outputs.dmux (dmuxGate_eq_ite _ _))⟩

/-- Settles O20: each corner case is a law of its gate; the unselected input of the multiplexer drops out by
`muxGate_low` and `muxGate_high`. -/
theorem gateCornerCases : Obligations.GateCornerCases :=
  ⟨andGate_self, andGate_comm, fun a => ⟨orGate_low a, low_orGate a⟩, orGate_comm,
    fun a => ⟨xorGate_self a, xorGate_low a, xorGate_high a⟩, xorGate_comm,
    fun a b b' => (muxGate_low a b).trans (muxGate_low a b').symm,
    fun a a' b => (muxGate_high a b).trans (muxGate_high a' b).symm,
    muxGate_self, muxGate_notGate, dmuxGate_low, dmuxGate_not_both_high, orGate_dmuxGate, muxGate_dmuxGate⟩

end Sys2Proof.Machine

namespace Sys2Proof

/-! PROOFS. Buses by their elements, and the two constant buses (spec/00_scope.md R9). -/

/-- A bus of width 1 is its element 0. -/
theorem Bus.wires_of_width_one {h : 0 < 1} (a : Bus ⟨1, h⟩) : a.wires = [a.msb] := by
  obtain ⟨v, hv⟩ := List.length_eq_one_iff.mp a.width_eq
  simp [Bus.msb, Bus.get, hv]

/-- The wires of a bus are its elements. -/
theorem Bus.mem_wires_iff {N : Width} (b : Bus N) (v : Signal) : v ∈ b.wires ↔ ∃ i, b.get i = v := by
  rw [List.mem_iff_get]
  constructor
  · rintro ⟨⟨i, hi⟩, h⟩
    exact ⟨⟨i, b.width_eq ▸ hi⟩, h⟩
  · rintro ⟨i, h⟩
    exact ⟨_, h⟩

@[simp] theorem Bus.bv_allHigh (N : Width) : (Bus.allHigh N).bv = BitVec.allOnes N.n := by
  apply BitVec.eq_of_toNat_eq
  simp [Bus.allHigh, Bus.val_fill, Signal.bit]

theorem Bus.sval_allLow (N : Width) : (Bus.allLow N).sval = 0 := by
  simp [Bus.sval, Bus.msb, Bus.allLow, Bus.val_fill, Signal.bit]

end Sys2Proof

namespace Sys2Proof.Machine

/-! PROOFS. The bus operations (spec/41_bus_ops.md): the lifts element by element and by value, the fan-in reducers by
their elements, and the 4-way and 8-way selectors by their index. -/

section Lifts
variable {N : Width} (a b : Bus N) (sel : Signal) (i : Fin N.n)

@[simp] theorem notN_get : (notN a).get i = notGate (a.get i) := by
  rw [notN_eq_map, Bus.map_get]

@[simp] theorem andN_get : (andN a b).get i = andGate (a.get i) (b.get i) := by
  rw [andN_eq_zipWith, Bus.zipWith_get]

@[simp] theorem orN_get : (orN a b).get i = orGate (a.get i) (b.get i) := by
  rw [orN_eq_zipWith, Bus.zipWith_get]

@[simp] theorem muxN_get : (muxN a b sel).get i = muxGate (a.get i) (b.get i) sel := by
  rw [muxN_eq_zipWith, Bus.zipWith_get]

theorem muxN_eq_ite_low : muxN a b sel = if sel = .low then a else b := by
  rw [muxN_eq_ite]
  cases sel <;> rfl

end Lifts

/-- Settles O21: each lift is its gate at every index (`notN_get` and its like); a bus of width 1 has one
(`Bus.wires_of_width_one`). -/
theorem liftsActElementwise : Obligations.LiftsActElementwise := by
  refine ⟨fun N a b sel i => ⟨notN_get a i, andN_get a b i, orN_get a b i, muxN_get a b sel i⟩,
    fun a b sel => ?_⟩
  simp only [Bus.wires_of_width_one, Bus.msb, notN_get, andN_get, orN_get, muxN_get, and_self]

section Values
variable {N : Width} (a b : Bus N)

theorem bit_notGate (v : Signal) : (notGate v).bit = 1 - v.bit := by
  cases v <;> rfl

/-- Complementing subtracts from `2^N - 1` (R51). -/
theorem notN_val : (notN a).val = 2 ^ N.n - 1 - a.val := by
  rw [← Bus.bv_toNat, notN_bv, BitVec.toNat_not, Bus.bv_toNat]

/-- The value and the sign bit are both subtracted from their greatest (R51). -/
theorem notN_sval : (notN a).sval = -a.sval - 1 := by
  have hval : ((notN a).val : Int) = 2 ^ N.n - 1 - a.val := by
    have hlt := a.val_lt
    have hpow : ((2 ^ N.n : Nat) : Int) = 2 ^ N.n := Nat.cast_pow 2 N.n
    rw [notN_val]
    omega
  have hbit : ((notN a).msb.bit : Int) = 1 - a.msb.bit := by
    rw [Bus.msb, notN_get, ← Bus.msb, bit_notGate, Nat.cast_sub a.msb.bit_le_one, Nat.cast_one]
  rw [Bus.sval, Bus.sval, hval, hbit]
  ring

theorem notN_notN : notN (notN a) = a := Bus.ext_bv (by simp)

theorem notN_allLow (N : Width) : notN (Bus.allLow N) = Bus.allHigh N :=
  Bus.ext_get fun i => by simp [Bus.allLow, Bus.allHigh]

theorem sval_allHigh (N : Width) : (Bus.allHigh N).sval = -1 := by
  rw [← notN_allLow, notN_sval, Bus.sval_allLow]
  rfl

theorem andN_val : (andN a b).val = a.val &&& b.val := by
  rw [← Bus.bv_toNat, andN_bv, BitVec.toNat_and, Bus.bv_toNat, Bus.bv_toNat]

theorem orN_val : (orN a b).val = a.val ||| b.val := by
  rw [← Bus.bv_toNat, orN_bv, BitVec.toNat_or, Bus.bv_toNat, Bus.bv_toNat]

theorem andN_allLow : andN a (Bus.allLow N) = Bus.allLow N := Bus.ext_bv (by simp)

theorem andN_allHigh : andN a (Bus.allHigh N) = a := Bus.ext_bv (by simp)

theorem andN_self : andN a a = a := Bus.ext_bv (by simp)

theorem orN_allLow : orN a (Bus.allLow N) = a := Bus.ext_bv (by simp)

theorem orN_allHigh : orN a (Bus.allHigh N) = Bus.allHigh N := Bus.ext_bv (by simp)

end Values

/-- Settles O22: the evaluation emits `notN`, whose elements and values are `notN_get`, `notN_val` and `notN_sval`. -/
theorem notNExecutes : Obligations.NotNExecutes :=
  ⟨fun _ => ⟨_, rfl, notN_get _, notN_val _, notN_sval _⟩, fun _ => notN_notN,
    fun N => ⟨notN_allLow N, sval_allHigh N⟩⟩

/-- Settles O23: the evaluation emits `andN`, whose elements and value are `andN_get` and `andN_val`. -/
theorem andNExecutes : Obligations.AndNExecutes :=
  ⟨fun _ => ⟨_, rfl, andN_get _ _, andN_val _ _⟩, fun _ a => ⟨andN_allLow a, andN_allHigh a, andN_self a⟩⟩

/-- Settles O24: the evaluation emits `orN`, whose elements and value are `orN_get` and `orN_val`. -/
theorem orNExecutes : Obligations.OrNExecutes :=
  ⟨fun _ => ⟨_, rfl, orN_get _ _, orN_val _ _⟩, fun _ a => ⟨orN_allLow a, orN_allHigh a⟩⟩

/-- Settles O25: the evaluation emits the operand that the selector names (`muxN_eq_ite_low`). -/
theorem muxNExecutes : Obligations.MuxNExecutes :=
  ⟨fun s => s.emit_of_eq (congrArg Outputs.bus (muxN_eq_ite_low _ _ _)), fun _ => muxN_get⟩

section Reducers
variable {N : Width} (b : Bus N)

theorem orMWay_eq_high_iff : orMWay b = .high ↔ ∃ i, b.get i = .high := by
  rw [orMWay_eq_foldl, foldl_orGate_eq_high_iff, Bus.mem_wires_iff]
  simp

theorem andMWay_eq_high_iff : andMWay b = .high ↔ ∀ i, b.get i = .high := by
  rw [andMWay_eq_foldl, foldl_andGate_eq_high_iff, Bus.mem_wires_iff]
  simp [← Signal.ne_high_iff]

theorem orMWay_allLow (N : Width) : orMWay (Bus.allLow N) = .low := by
  simp [← Signal.ne_high_iff, orMWay_eq_high_iff, Bus.allLow]

theorem andMWay_allHigh (N : Width) : andMWay (Bus.allHigh N) = .high := by
  simp [andMWay_eq_high_iff, Bus.allHigh]

/-- `and_m_way` and `or_m_way` are dual: all elements are `High` iff no complement is (R56). -/
theorem andMWay_eq_notGate_orMWay : andMWay b = notGate (orMWay (notN b)) := by
  apply signal_eq_of_high_iff
  rw [andMWay_eq_high_iff, notGate_eq_high_iff, ← Signal.ne_high_iff, Ne, orMWay_eq_high_iff]
  simp [← Signal.ne_high_iff]

end Reducers

/-- Settles O26: the evaluation emits the fold, which `orMWay_eq_signalOf` reads by the value and
`orMWay_eq_high_iff` by the elements. -/
theorem orMWayExecutes : Obligations.OrMWayExecutes :=
  ⟨fun s => s.emit_of_eq (congrArg Outputs.signal (orMWay_eq_signalOf _)),
    fun N b => ⟨orMWay_eq_foldl b, orMWay_eq_high_iff b, orMWay_allLow N⟩⟩

/-- Settles O27: the evaluation emits the fold, which `andMWay_eq_signalOf` reads by the value and
`andMWay_eq_high_iff` by the elements. -/
theorem andMWayExecutes : Obligations.AndMWayExecutes :=
  ⟨fun s => s.emit_of_eq (congrArg Outputs.signal (andMWay_eq_signalOf _)),
    fun N b => ⟨andMWay_eq_foldl b, andMWay_eq_high_iff b, andMWay_allHigh N, andMWay_eq_notGate_orMWay b⟩⟩

section Indices
variable (sel1Low : Bool) (sel1 sel2 sel3 : Signal)

theorem index4_lt : index4 sel1 sel2 < 4 := by
  cases sel1 <;> cases sel2 <;> decide

theorem index8_lt : index8 sel1 sel2 sel3 < 8 := by
  cases sel1 <;> cases sel2 <;> cases sel3 <;> decide

/-- Without `DMUX_SEL1_LOW` the selectors weigh in the opposite order (R59, D5). -/
theorem dmuxIndex4_eq : dmuxIndex4 sel1Low sel1 sel2 =
    if sel1Low then sel1.bit + 2 * sel2.bit else 2 * sel1.bit + sel2.bit := by
  rw [dmuxIndex4, index4, index4, Nat.add_comm sel2.bit]

/-- Without `DMUX_SEL1_LOW` the selectors weigh in the opposite order (R60, D5). -/
theorem dmuxIndex8_eq : dmuxIndex8 sel1Low sel1 sel2 sel3 =
    if sel1Low then sel1.bit + 2 * sel2.bit + 4 * sel3.bit else 4 * sel1.bit + 2 * sel2.bit + sel3.bit := by
  rw [dmuxIndex8, index8, index8, Nat.add_comm _ (4 * sel1.bit), Nat.add_comm sel3.bit, Nat.add_assoc (4 * _)]

end Indices

/-- The entry at an index within a list, as a value with a default and as an option. -/
theorem getElem?_eq_some_of_eq_getD {α : Type} {l : List α} {k : Nat} {v d : α} (hk : k < l.length)
    (h : v = l.getD k d) : l[k]? = some v := by
  simp [h, hk]

/-- Settles O28: the evaluation emits the list's entry at `index4` (`mux4WayN_eq_getD`), which is within the list. -/
theorem mux4WayNExecutes : Obligations.Mux4WayNExecutes :=
  ⟨fun _ => mux4WayN_eq_muxN,
    fun _ => ⟨_, rfl, getElem?_eq_some_of_eq_getD (index4_lt _ _) (mux4WayN_eq_getD _ _ _ _ _ _)⟩⟩

/-- Settles O29: the evaluation emits the list's entry at `index8` (`mux8WayN_eq_getD`), which is within the list. -/
theorem mux8WayNExecutes : Obligations.Mux8WayNExecutes :=
  ⟨fun _ => mux8WayN_eq_muxN,
    fun _ => ⟨_, rfl, getElem?_eq_some_of_eq_getD (index8_lt _ _ _) (mux8WayN_eq_getD _ _ _ _ _ _ _ _ _ _ _)⟩⟩

section Lines
variable (sel1Low : Bool) (inp sel1 sel2 sel3 : Signal) {k : Nat}

/-- A signal gated by a truth value. -/
theorem signalOf_high_and (p : Prop) [Decidable p] : signalOf (inp = .high ∧ p) = if p then inp else .low := by
  cases inp <;> simp [signalOf]

/-- Output `k` of `dmux_4_way` carries the input where `k` is the index (R59). -/
theorem dmux4Way_toList_getElem? (hk : k < 4) : (dmux4Way sel1Low inp sel1 sel2).toList[k]? =
    some (if k = dmuxIndex4 sel1Low sel1 sel2 then inp else .low) := by
  have hlines : (dmux4Way sel1Low inp sel1 sel2).toList =
      (List.range 4).map (dmux4Line sel1Low inp sel1 sel2) :=
    congrArg Dmux4Out.toList (dmux4Way_eq_lines ..)
  rw [hlines, List.getElem?_map, List.getElem?_range hk, Option.map_some, dmux4Line, signalOf_high_and]
  simp only [eq_comm]

/-- Output `k` of `dmux_8_way` carries the input where `k` is the index (R60). -/
theorem dmux8Way_toList_getElem? (hk : k < 8) : (dmux8Way sel1Low inp sel1 sel2 sel3).toList[k]? =
    some (if k = dmuxIndex8 sel1Low sel1 sel2 sel3 then inp else .low) := by
  have hlines : (dmux8Way sel1Low inp sel1 sel2 sel3).toList =
      (List.range 8).map (dmux8Line sel1Low inp sel1 sel2 sel3) :=
    congrArg Dmux8Out.toList (dmux8Way_eq_lines ..)
  rw [hlines, List.getElem?_map, List.getElem?_range hk, Option.map_some, dmux8Line, signalOf_high_and]
  simp only [eq_comm]

end Lines

/-- Settles O30: the netlist is the spec's by definition, and `dmux4Way_toList_getElem?` says what each output
carries. -/
theorem dmux4WayExecutes : Obligations.Dmux4WayExecutes := by
  refine ⟨fun _ _ _ => rfl, fun s => ⟨_, rfl, fun k hk => ?_⟩⟩
  rw [dmux4Way_toList_getElem? _ _ _ _ hk, dmuxIndex4_eq]

/-- Settles O31: each of the eight legs is the spec's by definition, and `dmux8Way_toList_getElem?` says what each
output carries. -/
theorem dmux8WayExecutes : Obligations.Dmux8WayExecutes := by
  refine ⟨fun inp sel1 sel2 sel3 k hk => ?_, fun s => ⟨_, rfl, fun k hk => ?_⟩⟩
  · interval_cases k <;> rfl
  · rw [dmux8Way_toList_getElem? _ _ _ _ _ hk, dmuxIndex8_eq]

end Sys2Proof.Machine

namespace Sys2Proof

/-! PROOFS. The signed value of a bus is that of its bit vector (spec/00_scope.md R9), and so lies in its range. -/

section Signed
variable {N : Width} (b : Bus N)

theorem Bus.sval_eq_toInt : b.sval = b.bv.toInt := by
  have htwo := N.two_pow_eq
  rw [Bus.sval_eq, BitVec.toInt_eq_toNat_cond, Bus.bv_toNat]
  split <;> split <;> omega

theorem Bus.neg_two_pow_le_sval : -2 ^ (N.n - 1) ≤ b.sval := by
  rw [Bus.sval_eq_toInt]
  exact BitVec.le_toInt _

theorem Bus.sval_lt_two_pow : b.sval < 2 ^ (N.n - 1) := by
  rw [Bus.sval_eq_toInt]
  exact BitVec.toInt_lt

end Signed

theorem Bus.val_allLow (N : Width) : (Bus.allLow N).val = 0 := by
  rw [Bus.allLow, Bus.val_fill, Signal.bit, Nat.zero_mul]

theorem Bus.val_allHigh (N : Width) : (Bus.allHigh N).val = 2 ^ N.n - 1 := by
  rw [Bus.allHigh, Bus.val_fill, Signal.bit, Nat.one_mul]

/-- An integer less than one period away from 0 is brought into the balanced range by at most one period. -/
theorem bmod_eq_self_or_add_or_sub {s : Int} {m : Nat} (hlo : -(m : Int) ≤ s) (hhi : s < m) :
    s.bmod m = s ∨ s.bmod m = s + m ∨ s.bmod m = s - m := by
  rcases lt_or_ge (s * 2) (-m) with hbelow | hlow
  · right; left
    rw [← Int.add_bmod_right, Int.bmod_eq_of_le_mul_two] <;> omega
  · rcases lt_or_ge (s * 2) m with hhigh | habove
    · left
      exact Int.bmod_eq_of_le_mul_two hlow hhigh
    · right; right
      rw [← Int.sub_bmod_right, Int.bmod_eq_of_le_mul_two] <;> omega

end Sys2Proof

namespace Sys2Proof.Machine

/-! PROOFS. The adders (spec/42_arithmetic.md): the half and the full adder as structures of gates that count their
inputs, the chain of carries of a ripple, and what the ripples of `n_adder` and `n_incrementer` compute. -/

section OneBit
variable (a b carryIn : Signal)

theorem andGate_low : andGate a .low = .low := signal_eq_of_high_iff (by simp)

/-- The structure of `half_adder` (R65). -/
theorem halfAdder_eq_gates : halfAdder a b = ⟨xorGate a b, andGate a b⟩ := rfl

/-- `half_adder` counts its inputs: 2*carry + sum = a + b (R65). -/
theorem halfAdder_total : 2 * (halfAdder a b).carry.bit + (halfAdder a b).sum.bit = a.bit + b.bit := by
  cases a <;> cases b <;> rfl

theorem halfAdder_not_both_high : ¬((halfAdder a b).sum = .high ∧ (halfAdder a b).carry = .high) := by
  rw [halfAdder_eq_gates, xorGate_eq_high_iff, andGate_eq_high_iff]
  rintro ⟨hne, ha, hb⟩
  exact hne (ha.trans hb.symm)

theorem halfAdder_low : halfAdder a .low = ⟨a, .low⟩ := by
  rw [halfAdder_eq_gates, xorGate_low, andGate_low]

/-- The structure of `full_adder`: two chained half adders (R66). -/
theorem fullAdder_eq_halfAdders : fullAdder a b carryIn =
    ⟨(halfAdder (halfAdder a b).sum carryIn).sum,
      orGate (halfAdder a b).carry (halfAdder (halfAdder a b).sum carryIn).carry⟩ := rfl

/-- `full_adder` counts its inputs: 2*carry_out + sum = a + b + carry_in (R66). -/
theorem fullAdder_total :
    2 * (fullAdder a b carryIn).carryOut.bit + (fullAdder a b carryIn).sum.bit = a.bit + b.bit + carryIn.bit := by
  cases a <;> cases b <;> cases carryIn <;> rfl

/-- A first carry leaves the first sum `Low`, and so there is no second carry. -/
theorem fullAdder_inner_carries_not_both_high :
    ¬((halfAdder a b).carry = .high ∧ (halfAdder (halfAdder a b).sum carryIn).carry = .high) := by
  rintro ⟨hfirst, hsecond⟩
  obtain ⟨hsum, -⟩ := (andGate_eq_high_iff _ _).mp hsecond
  exact halfAdder_not_both_high a b ⟨hsum, hfirst⟩

theorem fullAdder_low : fullAdder a .low carryIn = ⟨xorGate a carryIn, andGate a carryIn⟩ := by
  rw [fullAdder_eq_halfAdders, halfAdder_low, low_orGate, halfAdder_eq_gates]

theorem fullAdder_low_carryIn : fullAdder a b .low = ⟨xorGate a b, andGate a b⟩ := by
  rw [fullAdder_eq_halfAdders, halfAdder_low, orGate_low, halfAdder_eq_gates]

end OneBit

/-- Settles O33: the structure is the spec's by definition, and `halfAdder_total` says what it counts. -/
theorem halfAdderExecutes : Obligations.HalfAdderExecutes :=
  ⟨halfAdder_eq_gates, fun _ => ⟨_, rfl, halfAdder_total _ _⟩, halfAdder_not_both_high, halfAdder_low⟩

/-- Settles O34: the structure is the spec's by definition, and `fullAdder_total` says what it counts. -/
theorem fullAdderExecutes : Obligations.FullAdderExecutes :=
  ⟨fullAdder_eq_halfAdders, fun _ => ⟨_, rfl, fullAdder_total _ _ _⟩⟩

/-! ### The chain of carries (spec/42_arithmetic.md R67, R70) -/

/-- The carry out of index `i` of a ripple, which goes into index `i - 1`; at the length of the ripple it is `c_N`. -/
def carryOfIndex (cN : Signal) (pairs : List (Signal × Signal)) (i : Nat) : Signal :=
  (ripple cN (pairs.drop i)).carry

theorem carryOfIndex_length (cN : Signal) (pairs : List (Signal × Signal)) :
    carryOfIndex cN pairs pairs.length = cN := by
  rw [carryOfIndex, List.drop_length, ripple_nil]

/-- Index `i` of a ripple is a full adder on the carry of index `i + 1`. -/
theorem fullAdder_carryOfIndex (cN : Signal) (pairs : List (Signal × Signal)) (i : Nat) (hi : i < pairs.length) :
    fullAdder pairs[i].1 pairs[i].2 (carryOfIndex cN pairs (i + 1)) =
      ⟨(ripple cN pairs).sum[i]'(by rwa [ripple_sum_length]), carryOfIndex cN pairs i⟩ := by
  induction pairs generalizing i with
  | nil => exact absurd hi (Nat.not_lt_zero i)
  | cons p rest ih =>
    obtain ⟨a, b⟩ := p
    cases i with
    | zero => simp [carryOfIndex]
    | succ i => simpa [carryOfIndex] using ih i (Nat.lt_of_succ_lt_succ hi)

/-- A bus that carries the sum wires of a ripple is the output of a chain of full adders that begins with `c_N`. -/
theorem exists_carries_of_wires_eq_ripple {N : Width} {a b out : Bus N} {cN : Signal}
    (h : out.wires = (ripple cN (a.wires.zip b.wires)).sum) :
    ∃ c : Nat → Signal, c N.n = cN ∧
      ∀ i : Fin N.n, fullAdder (a.get i) (b.get i) (c (i.val + 1)) = ⟨out.get i, c i.val⟩ := by
  have hlen : (a.wires.zip b.wires).length = N.n := by
    rw [List.length_zip, a.width_eq, b.width_eq, min_self]
  refine ⟨carryOfIndex cN (a.wires.zip b.wires), ?_, fun i => ?_⟩
  · rw [← hlen, carryOfIndex_length]
  · have hi : i.val < (a.wires.zip b.wires).length := i.isLt.trans_eq hlen.symm
    simpa [Bus.get, h] using fullAdder_carryOfIndex cN _ i hi

section Ripples
variable {N : Width} (a b : Bus N)

/-- The signed sum, wrapped into the range of the width (R67). -/
theorem nAdder_sval : (nAdder a b).sval = (a.sval + b.sval).bmod (2 ^ N.n) := by
  simp only [Bus.sval_eq_toInt, nAdder_bv, BitVec.toInt_add]

/-- Both operands are in the range, so that their sum is at most one period outside it. -/
theorem nAdder_sval_wraps :
    (nAdder a b).sval = a.sval + b.sval ∨ (nAdder a b).sval = a.sval + b.sval + 2 ^ N.n ∨
      (nAdder a b).sval = a.sval + b.sval - 2 ^ N.n := by
  have hcast : ((2 ^ N.n : Nat) : Int) = 2 ^ N.n := Nat.cast_pow 2 N.n
  have htwo : (2 : Int) ^ N.n = 2 * 2 ^ (N.n - 1) := by exact_mod_cast N.two_pow_eq
  have ha := a.neg_two_pow_le_sval
  have ha' := a.sval_lt_two_pow
  have hb := b.neg_two_pow_le_sval
  have hb' := b.sval_lt_two_pow
  rw [nAdder_sval, ← hcast]
  exact bmod_eq_self_or_add_or_sub (by omega) (by omega)

theorem nAdder_allLow : nAdder a (Bus.allLow N) = a := Bus.ext_bv (by simp)

theorem nAdder_comm : nAdder a b = nAdder b a := Bus.ext_bv (by simp [BitVec.add_comm])

/-- The incrementer adds the bus of 1; at width 1, too, where that is the bus of `-1` (R69). -/
theorem nIncrementer_eq_nAdder_one : nIncrementer b = nAdder b (Bus.ofInt N 1) := by
  have hone : (Bus.ofInt N 1).val = 1 % 2 ^ N.n := Bus.val_ofInt_natCast N 1
  apply Bus.ext_val
  rw [nIncrementer_val, nAdder_val, hone, Nat.add_mod_mod]

theorem nIncrementer_allHigh (N : Width) : nIncrementer (Bus.allHigh N) = Bus.allLow N := by
  apply Bus.ext_val
  rw [nIncrementer_val, Bus.val_allHigh, Bus.val_allLow, Nat.sub_add_cancel (Nat.one_le_two_pow), Nat.mod_self]

end Ripples

section WidthOne
variable (a b : Bus ⟨1, by decide⟩)

/-- At width 1 the adder is the sum of one full adder on the carry `Low`. -/
theorem nAdder_wires_of_width_one : (nAdder a b).wires = [xorGate a.msb b.msb] := by
  rw [nAdder_wires, a.wires_of_width_one, b.wires_of_width_one]
  simp [fullAdder_low_carryIn]

/-- At width 1 the incrementer is the sum of one full adder on `Low` and the carry `High`. -/
theorem nIncrementer_wires_of_width_one : (nIncrementer b).wires = [notGate b.msb] := by
  rw [nIncrementer_wires, b.wires_of_width_one, (Bus.allLow _).wires_of_width_one]
  simp [Bus.allLow, Bus.msb, fullAdder_low]

end WidthOne

/-- Settles O35: the evaluation emits `nAdder`, whose values are `nAdder_val` and `nAdder_sval_wraps`; its wires are a
ripple, hence a chain of full adders (`exists_carries_of_wires_eq_ripple`). -/
theorem nAdderExecutes : Obligations.NAdderExecutes :=
  ⟨fun _ => ⟨_, rfl, nAdder_val _ _, ⟨Bus.neg_two_pow_le_sval _, Bus.sval_lt_two_pow _⟩,
      nAdder_sval_wraps _ _⟩,
    fun _ a b => exists_carries_of_wires_eq_ripple (nAdder_wires a b)⟩

/-- Settles O37: the evaluation emits `nIncrementer`, whose value is `nIncrementer_val`; its wires are a ripple with an
operand of all `Low`, hence a chain of full adders. -/
theorem nIncrementerExecutes : Obligations.NIncrementerExecutes := by
  refine ⟨fun _ => ⟨_, rfl, nIncrementer_val _⟩, fun N b => ?_, nIncrementer_allHigh,
    nIncrementer_wires_of_width_one⟩
  simpa [Bus.allLow] using exists_carries_of_wires_eq_ripple (nIncrementer_wires b)

/-- Settles O38: both are the sum modulo `2^N` (`nIncrementer_eq_nAdder_one`, `nIncrementer_eq_ofInt`). -/
theorem incrementerIsAdditionOfOne : Obligations.IncrementerIsAdditionOfOne :=
  fun _ b => ⟨nIncrementer_eq_nAdder_one b, nIncrementer_eq_ofInt b⟩

/-- Settles O36: each corner case is a law of its adder; adding 1 to `High^N` is incrementing it. -/
theorem adderCornerCases : Obligations.AdderCornerCases :=
  ⟨fullAdder_inner_carries_not_both_high, fullAdder_low,
    fun N => (nIncrementer_eq_nAdder_one _).symm.trans (nIncrementer_allHigh N),
    fun _ a b => ⟨nAdder_allLow a, nAdder_comm a b⟩, nAdder_wires_of_width_one⟩

end Sys2Proof.Machine

namespace Sys2Proof

/-! PROOFS. What the elements and the sign bit of a bus say about its values (spec/00_scope.md R9). -/

theorem Signal.bit_eq_one_iff (a : Signal) : a.bit = 1 ↔ a = .high := by cases a <;> decide

section Values
variable {N : Width} (b : Bus N)

theorem Bus.val_eq_zero_iff : b.val = 0 ↔ ∀ i, b.get i = .low := by
  rw [Bus.val, numberOfSignals_eq_zero_iff, Bus.mem_wires_iff, not_exists]
  exact forall_congr' fun i => Signal.ne_high_iff _

/-- The sign bit is `High` in the upper half of the values (R9). -/
theorem Bus.msb_eq_high_iff : b.msb = .high ↔ 2 ^ (N.n - 1) ≤ b.val := by
  rw [← Signal.bit_eq_one_iff, Bus.msb_bit]
  simp

/-- Only the value 0 is read as 0: the values of the upper half are read as negative numbers (R9). -/
theorem Bus.sval_eq_zero_iff : b.sval = 0 ↔ b.val = 0 := by
  have hlt := b.val_lt
  have hhalf := Nat.two_pow_pos (N.n - 1)
  rw [Bus.sval_eq]
  split <;> omega

theorem Bus.sval_neg_iff : b.sval < 0 ↔ b.msb = .high := by
  have hlt := b.val_lt
  rw [Bus.msb_eq_high_iff, Bus.sval_eq]
  split <;> omega

end Values

end Sys2Proof

namespace Sys2Proof.Machine

/-! PROOFS. The ALU (spec/43_alu.md): each stage as the function of the previous stage's result, the flags as
statements about the value of the result, the closed form on the cell, and the operand that a zero stage discards. -/

section AluStageFunctions
variable {N : Width} (x y : Bus N) (zx nx zy ny f no : Signal)

/-- A negate stage is the exclusive or with its control signal at every index (R77). -/
theorem aluWires_x2_get (i : Fin N.n) : (aluWires x y zx nx zy ny f no).x2.get i =
    xorGate ((aluWires x y zx nx zy ny f no).x1.get i) nx := by
  rw [aluWires_x2, muxN_get, notN_get, muxGate_notGate]

/-- Zeroing and then negating an operand gives `High^N` (R76, R77). -/
theorem aluWires_x2_high_high : (aluWires x y .high .high zy ny f no).x2 = Bus.allHigh N := by
  rw [aluWires_x2, aluWires_x1, muxN_eq_ite, muxN_eq_ite, if_pos rfl, if_pos rfl, notN_allLow]

/-- The combination is the wrapped sum or the bitwise AND of the staged operands (R79). -/
theorem aluWires_o1_eq_ite : (aluWires x y zx nx zy ny f no).o1 =
    if f = .high then
      Bus.ofInt N ((aluWires x y zx nx zy ny f no).x2.val + (aluWires x y zx nx zy ny f no).y2.val)
    else andN (aluWires x y zx nx zy ny f no).x2 (aluWires x y zx nx zy ny f no).y2 := by
  rw [aluWires_o1, muxN_eq_ite, aluWires_g, aluWires_s, nAdder_eq_ofInt]

end AluStageFunctions

/-- Settles O39: each stage is a multiplexer of its stage's lift (`aluWires_x1` and its like), which gives one of its
operands whole (`muxN_eq_ite`). -/
theorem aluStagesComputeTheirFunctions : Obligations.AluStagesComputeTheirFunctions := by
  intro N x y zx nx zy ny f no
  refine ⟨?x1, ?x2, fun i => aluWires_x2_get .., ?x2_high, ?y1, ?y2, aluWires_g .., aluWires_s ..,
    aluWires_o1_eq_ite .., ?out⟩
  case x1 => exact (aluWires_x1 ..).trans (muxN_eq_ite ..)
  case x2 => exact (aluWires_x2 ..).trans (muxN_eq_ite ..)
  case x2_high => rintro rfl rfl; exact aluWires_x2_high_high ..
  case y1 => exact (aluWires_y1 ..).trans (muxN_eq_ite ..)
  case y2 => exact (aluWires_y2 ..).trans (muxN_eq_ite ..)
  case out => exact (aluWires_out ..).trans (muxN_eq_ite ..)

/-- At width 1 the fan-in OR is the bus's only element (R55). -/
theorem orMWay_of_width_one (b : Bus ⟨1, by decide⟩) : orMWay b = b.msb := by
  rw [orMWay_eq_foldl, b.wires_of_width_one, List.foldl_cons, List.foldl_nil, low_orGate]

theorem notGate_notGate (a : Signal) : notGate (notGate a) = a := by
  cases a <;> rfl

section AluFlags
variable {N : Width} (x y : Bus N) (zx nx zy ny f no : Signal)

/-- `zr` says that the unsigned value of the result is 0 (R81). -/
theorem alu_zr_eq_high_iff :
    (alu x y zx nx zy ny f no).zr = .high ↔ (alu x y zx nx zy ny f no).out.val = 0 := by
  rw [alu_zr, notGate_eq_high_iff, orMWay_eq_signalOf, signalOf_eq_low_iff, Ne, not_not]

theorem alu_zr_eq_high_iff_sval :
    (alu x y zx nx zy ny f no).zr = .high ↔ (alu x y zx nx zy ny f no).out.sval = 0 := by
  rw [alu_zr_eq_high_iff, Bus.sval_eq_zero_iff]

theorem alu_ng_eq_high_iff_sval :
    (alu x y zx nx zy ny f no).ng = .high ↔ (alu x y zx nx zy ny f no).out.sval < 0 := by
  rw [alu_ng, Bus.sval_neg_iff]

/-- No number is both zero and negative (R85). -/
theorem alu_flags_not_both_high :
    ¬((alu x y zx nx zy ny f no).zr = .high ∧ (alu x y zx nx zy ny f no).ng = .high) := by
  rw [alu_zr_eq_high_iff_sval, alu_ng_eq_high_iff_sval]
  omega

/-- A number that is neither zero nor negative is positive (R85). -/
theorem alu_flags_both_low_iff :
    ((alu x y zx nx zy ny f no).zr = .low ∧ (alu x y zx nx zy ny f no).ng = .low) ↔
      0 < (alu x y zx nx zy ny f no).out.sval := by
  rw [← Signal.ne_high_iff, ← Signal.ne_high_iff, Ne, Ne, alu_zr_eq_high_iff_sval, alu_ng_eq_high_iff_sval]
  omega

end AluFlags

/-- At width 1 the sign bit is the whole result (R85). -/
theorem alu_ng_of_width_one (x y : Bus ⟨1, by decide⟩) (zx nx zy ny f no : Signal) :
    (alu x y zx nx zy ny f no).ng = notGate (alu x y zx nx zy ny f no).zr := by
  rw [alu_zr, notGate_notGate, orMWay_of_width_one, alu_ng]

/-- Settles O40: `zr` says that the signed value of the result is 0 and `ng` that it is negative, so that the order of
the integers relates the two. -/
theorem aluFlagsReportTheWrappedResult : Obligations.AluFlagsReportTheWrappedResult :=
  ⟨fun _ x y zx nx zy ny f no =>
      ⟨(alu_zr_eq_high_iff ..).trans (Bus.val_eq_zero_iff _), alu_zr_eq_high_iff .., alu_zr_eq_high_iff_sval ..,
        alu_ng .., alu_ng_eq_high_iff_sval .., alu_flags_not_both_high x y zx nx zy ny f no,
        alu_flags_both_low_iff ..⟩,
    alu_ng_of_width_one⟩

section AluComposition
variable {N : Width} (x y : Bus N) (zx nx zy ny f no : Signal)

/-- The value of the result is the closed form (R83). -/
theorem alu_out_val : (alu x y zx nx zy ny f no).out.val = aluClosedForm N.n x.val y.val zx nx zy ny f no := by
  rw [alu_out, ← Bus.bv_toNat, aluWires_out_bv, aluResultBV_toNat, Bus.bv_toNat, Bus.bv_toNat]

/-- The outputs are the final result and its flags (R81, R82). -/
theorem alu_eq_out : alu x y zx nx zy ny f no =
    ⟨(aluWires x y zx nx zy ny f no).out, notGate (orMWay (aluWires x y zx nx zy ny f no).out),
      (aluWires x y zx nx zy ny f no).out.msb⟩ := by
  rw [← alu_out, ← alu_zr, ← alu_ng]

end AluComposition

/-- Settles O41: the cell emits `alu`, whose result has the closed form as its value (`alu_out_val`); the composition is
the unrolling of the stages into the result (`alu_eq_out`, `aluWires_out` and its like). -/
theorem aluMeetsItsClosedForm : Obligations.AluMeetsItsClosedForm := by
  refine ⟨fun s => ⟨_, rfl, alu_out_val .., alu_zr_eq_high_iff .., ?_⟩, fun N x y zx nx zy ny f no => ?_⟩
  · rw [alu_ng, Bus.msb_eq_high_iff]
  · simp only [alu_eq_out, aluWires_out, aluWires_o1, aluWires_g, aluWires_s, aluWires_x2, aluWires_x1, aluWires_y2,
      aluWires_y1]

/-- A zeroed operand `x` is 0 whatever stands at its port (R76). -/
theorem alu_zx_high {N : Width} (x x' y : Bus N) (nx zy ny f no : Signal) :
    alu x y .high nx zy ny f no = alu x' y .high nx zy ny f no := by
  simp only [alu_eq_aluResult, aluResultBV, zeroStageBV_high]

/-- A zeroed operand `y` is 0 whatever stands at its port (R78). -/
theorem alu_zy_high {N : Width} (x y y' : Bus N) (zx nx ny f no : Signal) :
    alu x y zx nx .high ny f no = alu x y' zx nx .high ny f no := by
  simp only [alu_eq_aluResult, aluResultBV, zeroStageBV_high]

/-- Settles O43: the outputs depend on an operand through its zero stage alone, which discards it. -/
theorem zeroedOperandIsIgnored : Obligations.ZeroedOperandIsIgnored :=
  ⟨fun _ => alu_zx_high, fun _ => alu_zy_high⟩

end Sys2Proof.Machine

namespace Sys2Proof.Machine

/-! PROOFS. The rule of each control word (spec/44_alu_functions.md). Everything a rule says follows from the word's
six signals: an operand is staged by its two signals (`stagedOperand`), the result is the function of the word's row
(`wordFunction`), and the combined result is the function of the word that differs in `no` being `Low`. -/

section WordRules
variable (zx nx zy ny f no : Signal)

/-- An operand after its zero stage under `z` and its negate stage under `neg` (R76 to R78). -/
def stagedOperand (z neg : Signal) {n : Nat} (v : BitVec n) : BitVec n :=
  match z, neg with
  | .low, .low => v
  | .low, .high => ~~~v
  | .high, .low => 0
  | .high, .high => -1

theorem negateStageBV_zeroStageBV (z neg : Signal) {n : Nat} (v : BitVec n) :
    negateStageBV (zeroStageBV v z) neg = stagedOperand z neg v := by
  cases z <;> cases neg
  case high.high => exact (BitVec.not_zero).trans BitVec.neg_one_eq_allOnes.symm
  all_goals rfl

/-- The function that the row of a control word names (R33). -/
def wordFunction : AluFunction :=
  (aluFunctionOf (decodeControl zx nx zy ny f no)).get
    (Option.isSome_iff_exists.mpr (exists_aluFunctionOf_decodeControl zx nx zy ny f no))

theorem aluFunctionOf_decodeControl :
    aluFunctionOf (decodeControl zx nx zy ny f no) = some (wordFunction zx nx zy ny f no) :=
  (Option.some_get _).symm

theorem aluResultBV_eq_wordFunction_apply {n : Nat} (x y : BitVec n) :
    aluResultBV x y zx nx zy ny f no = (wordFunction zx nx zy ny f no).apply x y :=
  aluResultBV_eq_apply x y zx nx zy ny f no (aluFunctionOf_decodeControl zx nx zy ny f no)

/-- The combined result is the result of the word with `no` `Low`, whose last stage changes nothing (R79, R80). -/
theorem aluWires_o1_bv_eq_wordFunction_apply {N : Width} (x y : Bus N) :
    (aluWires x y zx nx zy ny f no).o1.bv = (wordFunction zx nx zy ny f .low).apply x.bv y.bv :=
  (aluWires_o1_bv x y zx nx zy ny f no).trans (aluResultBV_eq_wordFunction_apply zx nx zy ny f .low x.bv y.bv)

/-- The number of six signals is the table word of the row that they select (R30). -/
theorem decodeTableWord_numberOfSignals :
    decodeTableWord 8 (numberOfSignals [zx, nx, zy, ny, f, no]) = some (decodeControl zx nx zy ny f no) := by
  rw [decodeTableWord_eq_some_iff, tableSignals_numberOfSignals rfl]
  rfl

/-- The evaluation of a row with a function outputs the function's value of the operands at the ports (R33). -/
theorem exec_of_aluFunctionOf {i : Instr} {g : AluFunction} (h : aluFunctionOf i = some g) (s : State) :
    exec i s = .next (s.withOutputs (.alu (aluResult (g.apply s.inputs.bus.x.bv s.inputs.bus.y.bv)))) := by
  rw [exec_eq_specOutputs, specOutputs_of_aluFunctionOf s.config s.inputs h]

/-- The rule of a control word: its number, its row, each of its stages and its evaluation (R100 to R163). -/
theorem wordComputes_decodeControl :
    WordComputes (decodeControl zx nx zy ny f no) (numberOfSignals [zx, nx, zy, ny, f, no])
      (fun _ x => stagedOperand zx nx x) (fun _ y => stagedOperand zy ny y)
      (fun _ x y => (wordFunction zx nx zy ny f .low).apply x y)
      (fun _ x y => (wordFunction zx nx zy ny f no).apply x y) := by
  refine ⟨decodeTableWord_numberOfSignals zx nx zy ny f no, ?stages,
    exec_of_aluFunctionOf (aluFunctionOf_decodeControl zx nx zy ny f no)⟩
  intro zx' nx' zy' ny' f' no' hword N x y
  cases (encode_decodeControl zx nx zy ny f no).symm.trans hword
  exact ⟨(aluWires_x2_bv ..).trans (negateStageBV_zeroStageBV ..),
    (aluWires_y2_bv ..).trans (negateStageBV_zeroStageBV ..),
    aluWires_o1_bv_eq_wordFunction_apply zx nx zy ny f no x y,
    (aluWires_out_bv ..).trans (aluResultBV_eq_wordFunction_apply ..)⟩

end WordRules

/-- Settles O45: the rule of each word (`wordComputes_decodeControl`) computes to what the conjunct says: the word's
row names the function 0, and its row with `no` `Low` the combined result. -/
theorem wordsComputingZero : Obligations.WordsComputingZero :=
  ⟨wordComputes_decodeControl .low .low .high .low .low .low,
    wordComputes_decodeControl .low .high .high .low .low .low,
    wordComputes_decodeControl .high .low .low .low .low .low,
    wordComputes_decodeControl .high .low .low .high .low .low,
    wordComputes_decodeControl .high .low .high .low .low .low,
    wordComputes_decodeControl .high .low .high .low .high .low, rfl,
    wordComputes_decodeControl .high .low .high .high .low .low,
    wordComputes_decodeControl .high .low .high .high .high .high,
    wordComputes_decodeControl .high .high .high .low .low .low,
    wordComputes_decodeControl .high .high .high .low .high .high,
    wordComputes_decodeControl .high .high .high .high .low .high⟩

/-- Settles O46: the rule of each word (`wordComputes_decodeControl`) computes to what the conjunct says: the word's
row names the function -1, and its row with `no` `Low` the combined result. -/
theorem wordsComputingMinusOne : Obligations.WordsComputingMinusOne :=
  ⟨wordComputes_decodeControl .low .low .high .low .low .high,
    wordComputes_decodeControl .low .high .high .low .low .high,
    wordComputes_decodeControl .high .low .low .low .low .high,
    wordComputes_decodeControl .high .low .low .high .low .high,
    wordComputes_decodeControl .high .low .high .low .low .high,
    wordComputes_decodeControl .high .low .high .low .high .high,
    wordComputes_decodeControl .high .low .high .high .low .high,
    wordComputes_decodeControl .high .low .high .high .high .low,
    wordComputes_decodeControl .high .high .high .low .low .high,
    wordComputes_decodeControl .high .high .high .low .high .low, rfl,
    wordComputes_decodeControl .high .high .high .high .low .low⟩

/-- Settles O47: the rule of each word (`wordComputes_decodeControl`) computes to what the conjunct says: `y` is
staged to the neutral element of the combination, so that the word's row names x or !x. -/
theorem wordsOfX : Obligations.WordsOfX :=
  ⟨wordComputes_decodeControl .low .low .high .low .high .low,
    wordComputes_decodeControl .low .low .high .low .high .high,
    wordComputes_decodeControl .low .low .high .high .low .low, rfl,
    wordComputes_decodeControl .low .low .high .high .low .high, rfl,
    wordComputes_decodeControl .low .high .high .low .high .low,
    wordComputes_decodeControl .low .high .high .low .high .high,
    wordComputes_decodeControl .low .high .high .high .low .low,
    wordComputes_decodeControl .low .high .high .high .low .high⟩

/-- Settles O48: the rule of each word (`wordComputes_decodeControl`) computes to what the conjunct says: `x` is
staged to the neutral element of the combination, so that the word's row names y or !y. -/
theorem wordsOfY : Obligations.WordsOfY :=
  ⟨wordComputes_decodeControl .high .low .low .low .high .low,
    wordComputes_decodeControl .high .low .low .low .high .high,
    wordComputes_decodeControl .high .low .low .high .high .low,
    wordComputes_decodeControl .high .low .low .high .high .high,
    wordComputes_decodeControl .high .high .low .low .low .low, rfl,
    wordComputes_decodeControl .high .high .low .low .low .high, rfl,
    wordComputes_decodeControl .high .high .low .high .low .low,
    wordComputes_decodeControl .high .high .low .high .low .high⟩

/-! PROOFS. Words that no other word equals (spec/44_alu_functions.md, notes/assumptions/8.md): a function with one word
differs, at every width of at least 2, from the function of any other word. -/

/-- The rows of the table words that compute a function, in the order of their numbers. -/
def AluFunction.words (g : AluFunction) : List Instr :=
  ((List.range 64).filterMap (decodeTableWord 8)).filter (fun i => aluFunctionOf i = some g)

/-- Every row with a function is the row of a table word, so none is missing from the function's words (R33). -/
theorem AluFunction.mem_words_iff (g : AluFunction) (i : Instr) : i ∈ g.words ↔ aluFunctionOf i = some g := by
  suffices hrow : aluFunctionOf i = some g → ∃ w < 64, decodeTableWord 8 w = some i by
    simpa [words] using hrow
  intro hg
  have hword : isControlWord i := (aluFunctionOf_isSome_iff i).mp (Option.isSome_iff_exists.mpr ⟨g, hg⟩)
  obtain ⟨zx, nx, zy, ny, f, no, rfl⟩ := (isControlWord_iff i).mp hword
  exact ⟨numberOfSignals [zx, nx, zy, ny, f, no], numberOfSignals_lt _,
    decodeTableWord_numberOfSignals zx nx zy ny f no⟩

/-- Words of different functions give different results on some operands, at every width of at least 2. -/
theorem exists_alu_out_ne_of_wordFunction_ne {zx nx zy ny f no zx' nx' zy' ny' f' no' : Signal}
    (hne : wordFunction zx' nx' zy' ny' f' no' ≠ wordFunction zx nx zy ny f no) {N : Width} (hN : 2 ≤ N.n) :
    ∃ x y : Bus N, (alu x y zx' nx' zy' ny' f' no').out ≠ (alu x y zx nx zy ny f no).out := by
  obtain ⟨x, y, hxy⟩ := AluFunction.exists_apply_ne hne hN
  refine ⟨.ofBV x, .ofBV y, fun hout => hxy ?_⟩
  simpa [alu_out, aluWires_out_bv, aluResultBV_eq_wordFunction_apply] using congrArg Bus.bv hout

/-- The only word of a function computes what no other word does. -/
theorem noOtherWord_of_words_eq (g : AluFunction) {i : Instr} (h : g.words = [i]) : NoOtherWord i := by
  have hunique (j : Instr) : aluFunctionOf j = some g ↔ j = i := by
    rw [← AluFunction.mem_words_iff, h, List.mem_singleton]
  intro j zx nx zy ny f no zx' nx' zy' ny' f' no' hi hj hji N hN
  cases eq_decodeControl_of_encode_eq hi
  cases eq_decodeControl_of_encode_eq hj
  have hg := (hunique _).mpr rfl
  refine exists_alu_out_ne_of_wordFunction_ne (fun hsame => hji ((hunique _).mp ?_)) hN
  rw [aluFunctionOf_decodeControl, hsame, ← aluFunctionOf_decodeControl, hg]

/-- Settles O49: each word has its rule (`wordComputes_decodeControl`) and is the only word of its function
(`noOtherWord_of_words_eq`). -/
theorem bitwiseWords : Obligations.BitwiseWords :=
  ⟨wordComputes_decodeControl .low .low .low .low .low .low, rfl, noOtherWord_of_words_eq .xAndY rfl,
    wordComputes_decodeControl .low .low .low .low .low .high, noOtherWord_of_words_eq .xNandY rfl,
    wordComputes_decodeControl .low .low .low .high .low .low, noOtherWord_of_words_eq .xAndNotY rfl,
    wordComputes_decodeControl .low .low .low .high .low .high, noOtherWord_of_words_eq .notXOrY rfl,
    wordComputes_decodeControl .low .high .low .low .low .low, noOtherWord_of_words_eq .notXAndY rfl,
    wordComputes_decodeControl .low .high .low .low .low .high, noOtherWord_of_words_eq .xOrNotY rfl,
    wordComputes_decodeControl .low .high .low .high .low .low, noOtherWord_of_words_eq .xNorY rfl,
    wordComputes_decodeControl .low .high .low .high .low .high, rfl, noOtherWord_of_words_eq .xOrY rfl⟩

/-- Settles O50: each word has its rule (`wordComputes_decodeControl`) and is the only word of its function
(`noOtherWord_of_words_eq`). -/
theorem oneOperandArithmeticWords : Obligations.OneOperandArithmeticWords :=
  ⟨wordComputes_decodeControl .low .low .high .high .high .low, rfl, noOtherWord_of_words_eq .xMinus1 rfl,
    wordComputes_decodeControl .low .low .high .high .high .high, rfl, noOtherWord_of_words_eq .negX rfl,
    wordComputes_decodeControl .low .high .high .high .high .low, noOtherWord_of_words_eq .negXMinus2 rfl,
    wordComputes_decodeControl .low .high .high .high .high .high, rfl, noOtherWord_of_words_eq .xPlus1 rfl,
    wordComputes_decodeControl .high .high .low .low .high .low, rfl, noOtherWord_of_words_eq .yMinus1 rfl,
    wordComputes_decodeControl .high .high .low .low .high .high, rfl, noOtherWord_of_words_eq .negY rfl,
    wordComputes_decodeControl .high .high .low .high .high .low, noOtherWord_of_words_eq .negYMinus2 rfl,
    wordComputes_decodeControl .high .high .low .high .high .high, rfl, noOtherWord_of_words_eq .yPlus1 rfl,
    wordComputes_decodeControl .high .high .high .high .high .low, noOtherWord_of_words_eq .minusTwo rfl,
    wordComputes_decodeControl .high .high .high .high .high .high, rfl, noOtherWord_of_words_eq .one rfl⟩

/-- Settles O51: each word has its rule (`wordComputes_decodeControl`) and is the only word of its function
(`noOtherWord_of_words_eq`). -/
theorem twoOperandArithmeticWords : Obligations.TwoOperandArithmeticWords :=
  ⟨wordComputes_decodeControl .low .low .low .low .high .low, rfl, noOtherWord_of_words_eq .xPlusY rfl,
    wordComputes_decodeControl .low .low .low .low .high .high, noOtherWord_of_words_eq .negXMinusYMinus1 rfl,
    wordComputes_decodeControl .low .low .low .high .high .low, noOtherWord_of_words_eq .xMinusYMinus1 rfl,
    wordComputes_decodeControl .low .low .low .high .high .high, rfl, noOtherWord_of_words_eq .yMinusX rfl,
    wordComputes_decodeControl .low .high .low .low .high .low, noOtherWord_of_words_eq .yMinusXMinus1 rfl,
    wordComputes_decodeControl .low .high .low .low .high .high, rfl, noOtherWord_of_words_eq .xMinusY rfl,
    wordComputes_decodeControl .low .high .low .high .high .low, noOtherWord_of_words_eq .negXMinusYMinus2 rfl,
    wordComputes_decodeControl .low .high .low .high .high .high, noOtherWord_of_words_eq .xPlusYPlus1 rfl⟩

/-- Settles O53: the word `010011` outputs `x - y` (`exec_of_aluFunctionOf`), which is 0 in wrapped arithmetic exactly
when the operands are equal, and a bus is determined by its bit vector. -/
theorem zeroFlagOfDifferenceIsEquality : Obligations.ZeroFlagOfDifferenceIsEquality := by
  intro s
  refine ⟨_, exec_of_aluFunctionOf (g := .xMinusY) rfl s, ?_⟩
  calc signalOf (s.inputs.bus.x.bv - s.inputs.bus.y.bv = 0) = .high
    _ ↔ s.inputs.bus.x.bv - s.inputs.bus.y.bv = 0 := signalOf_eq_high_iff _
    _ ↔ s.inputs.bus.x.bv = s.inputs.bus.y.bv := sub_eq_zero
    _ ↔ s.inputs.bus.x = s.inputs.bus.y := ⟨Bus.ext_bv, congrArg Bus.bv⟩

end Sys2Proof.Machine

namespace Sys2Proof

/-! PROOFS. Writing an integer on a bus and reading a bus as a signed value are inverse in the range of the width
(spec/00_scope.md R9). -/

section Signed
variable {N : Width} (b : Bus N) {v : Int}

@[simp] theorem Bus.bv_ofInt (N : Width) (v : Int) : (Bus.ofInt N v).bv = BitVec.ofInt N.n v := by
  apply BitVec.eq_of_toNat_eq
  rw [Bus.bv_toNat, Bus.val_ofInt, BitVec.toNat_ofInt, Nat.cast_pow, Nat.cast_ofNat]

/-- Writing the signed value of a bus gives the bus. -/
theorem Bus.ofInt_sval : Bus.ofInt N b.sval = b := by
  apply Bus.ext_bv
  rw [Bus.bv_ofInt, Bus.sval_eq_toInt, BitVec.ofInt_toInt]

/-- Reading what an integer of the signed range wrote gives the integer. -/
theorem Bus.sval_ofInt (hlo : -2 ^ (N.n - 1) ≤ v) (hhi : v < 2 ^ (N.n - 1)) : (Bus.ofInt N v).sval = v := by
  rw [Bus.sval_eq_toInt, Bus.bv_ofInt]
  exact BitVec.toInt_ofInt_eq_self N.pos hlo hhi

/-- With the sign bit `Low` the two readings of a bus agree (R9). -/
theorem Bus.sval_eq_val_of_msb_low (h : b.msb = .low) : b.sval = b.val := by
  simp [Bus.sval, h, Signal.bit]

/-- With the sign bit `High` the two readings of a bus are `2^N` apart (R9). -/
theorem Bus.sval_eq_val_sub_of_msb_high (h : b.msb = .high) : b.sval = (b.val : Int) - 2 ^ N.n := by
  simp [Bus.sval, h, Signal.bit]

end Signed

end Sys2Proof

namespace Sys2Proof.Machine

/-! PROOFS. The codec (spec/45_codec.md R171 to R173): the encoder by the range of its integer, and the decoder as the
signed value, because complementing and incrementing a negative bus writes its magnitude. -/

theorem signalOf_eq_ofBool (c : Bool) : signalOf (c = true) = Signal.ofBool c := by cases c <;> rfl

/-- Element `i` of the bus of an integer is the bit of weight `2^(N-1-i)` of the integer modulo `2^N` (R9). -/
theorem ofInt_get {N : Width} (v : Int) (i : Fin N.n) :
    (Bus.ofInt N v).get i = signalOf ((v % 2 ^ N.n).toNat.testBit (N.n - 1 - i) = true) := by
  rw [Bus.get_eq_testBit, Bus.val_ofInt, signalOf_eq_ofBool]

section Magnitude
variable {N : Width} (b : Bus N)

/-- Of a negative bus the incremented complement is the magnitude; no carry is lost, even at `-2^(N-1)` (R172). -/
theorem nIncrementer_notN_val_of_msb_high (h : b.msb = .high) : ((nIncrementer (notN b)).val : Int) = -b.sval := by
  have hhalf := (Bus.msb_eq_high_iff b).mp h
  have hpos := Nat.two_pow_pos (N.n - 1)
  have hlt := b.val_lt
  have hcast : ((2 ^ N.n : Nat) : Int) = 2 ^ N.n := Nat.cast_pow 2 N.n
  rw [nIncrementer_val, notN_val, Nat.mod_eq_of_lt (by omega), Bus.sval_eq_val_sub_of_msb_high b h]
  omega

/-- Only `Low^N` has an incremented complement of `Low^N`, and its sign bit is `Low` (R172). -/
theorem nIncrementer_notN_ne_allLow_of_msb_high (h : b.msb = .high) : nIncrementer (notN b) ≠ Bus.allLow N := by
  intro hzero
  have hneg := (Bus.sval_neg_iff b).mpr h
  have hval := nIncrementer_notN_val_of_msb_high b h
  rw [hzero, Bus.val_allLow] at hval
  omega

end Magnitude

section Codec
variable {v : Int} (b : Bus width16)

theorem intToBus16_of_mem_range (hlo : -32768 ≤ v) (hhi : v ≤ 32767) :
    intToBus16 v = .ok (Bus.ofInt width16 v) :=
  if_pos ⟨hlo, hhi⟩

theorem intToBus16_of_not_mem_range (h : v < -32768 ∨ 32767 < v) : intToBus16 v = .error .integerOutOfRange :=
  if_neg (by omega)

theorem sval_ofInt_width16 (hlo : -32768 ≤ v) (hhi : v ≤ 32767) : (Bus.ofInt width16 v).sval = v :=
  Bus.sval_ofInt hlo (Int.lt_add_one_of_le hhi)

theorem bus16ToInt_of_msb_high (h : b.msb = .high) : bus16ToInt b = -((nIncrementer (notN b)).val : Int) := by
  simp [bus16ToInt, h]

theorem bus16ToInt_of_msb_low (h : b.msb = .low) : bus16ToInt b = (b.val : Int) := by
  simp [bus16ToInt, h]

/-- The decoder's recipe is the signed value on both sides of the sign bit (R172). -/
theorem bus16ToInt_eq_sval : bus16ToInt b = b.sval := by
  cases h : b.msb with
  | low => rw [bus16ToInt_of_msb_low b h, Bus.sval_eq_val_of_msb_low b h]
  | high => rw [bus16ToInt_of_msb_high b h, nIncrementer_notN_val_of_msb_high b h, neg_neg]

theorem bus16ToInt_mem_range : -32768 ≤ bus16ToInt b ∧ bus16ToInt b ≤ 32767 := by
  rw [bus16ToInt_eq_sval]
  exact ⟨Bus.neg_two_pow_le_sval b, Int.le_of_lt_add_one (Bus.sval_lt_two_pow b)⟩

end Codec

/-- Settles O54: in range the encoder is `Bus.ofInt`, whose elements are the bits (`ofInt_get`) and whose signed value
is the integer (`sval_ofInt_width16`); the sign bit is that of the signed value. -/
theorem intToBus16EncodesOrRefuses : Obligations.IntToBus16EncodesOrRefuses := by
  refine ⟨fun v hlo hhi => ?_, fun v => intToBus16_of_not_mem_range⟩
  have hsval := sval_ofInt_width16 hlo hhi
  refine ⟨_, intToBus16_of_mem_range hlo hhi, ofInt_get (N := width16) v, hsval, ?_⟩
  rw [← Bus.sval_neg_iff, hsval]

/-- Settles O55: the decoder is the signed value (`bus16ToInt_eq_sval`) and so lies in its range. -/
theorem bus16ToIntIsSignedValue : Obligations.Bus16ToIntIsSignedValue :=
  fun b => ⟨bus16ToInt_eq_sval b, bus16ToInt_mem_range b, bus16ToInt_of_msb_high b, bus16ToInt_of_msb_low b⟩

/-- Settles O56: the decoder is the signed value, which `Bus.ofInt` inverts on both sides (`Bus.ofInt_sval`,
`sval_ofInt_width16`); a decoded integer is in the encoder's range. -/
theorem codecRoundTrips : Obligations.CodecRoundTrips := by
  refine ⟨fun v hlo hhi => ⟨_, intToBus16_of_mem_range hlo hhi, ?_⟩, fun b => ?_,
    nIncrementer_notN_ne_allLow_of_msb_high⟩
  · rw [bus16ToInt_eq_sval, sval_ofInt_width16 hlo hhi]
  · obtain ⟨hlo, hhi⟩ := bus16ToInt_mem_range b
    rw [intToBus16_of_mem_range hlo hhi, bus16ToInt_eq_sval, Bus.ofInt_sval]

end Sys2Proof.Machine

namespace Sys2Proof.Machine

/-! PROOFS. The two sides of completion (spec/60_exceptions.md R180, R181): no evaluation refuses, and what can be
refused, a width that does not fit, is refused where buses and cells are built. -/

/-- Settles O7: every evaluation, of a control word or of a cell, answers with its outputs (`exec_eq_specOutputs`). -/
theorem everyEvaluationCompletes : Obligations.EveryEvaluationCompletes :=
  fun i s => ⟨specOutputs s.config s.inputs i, exec_eq_specOutputs s i⟩

section Connect
variable {N : Width} {wires : List Signal} (s : State) (port : BusPort)

theorem connectBus_of_length_eq (h : wires.length = N.n) : connectBus N wires = .ok ⟨wires, h⟩ :=
  (connectBus_eq_ok_iff N wires ⟨wires, h⟩).mpr rfl

theorem connectBus_of_length_ne (h : wires.length ≠ N.n) : connectBus N wires = .error .widthMismatch :=
  dif_neg h

/-- As many wires as the width drive the port with the bus of these wires (R25). -/
theorem State.driveWires_of_length_eq (h : wires.length = s.config.width.n) :
    s.driveWires port wires = .next (s.driveBus port ⟨wires, h⟩) := by
  rw [State.driveWires, connectBus_of_length_eq h]

/-- Any other number of wires drives nothing (R181). -/
theorem State.driveWires_of_length_ne (h : wires.length ≠ s.config.width.n) :
    s.driveWires port wires = .refused .widthMismatch := by
  rw [State.driveWires, connectBus_of_length_ne h]

end Connect

section Place
variable {n : Nat} (low : Bool)

theorem place_zero : place 0 low = .refused .widthMismatch := rfl

theorem place_of_ne_zero (h : n ≠ 0) : place n low = .next (State.idle ⟨⟨n, Nat.pos_of_ne_zero h⟩, low⟩) :=
  dif_pos (Nat.pos_of_ne_zero h)

theorem place_eq_refused_iff : place n low = .refused .widthMismatch ↔ n = 0 := by
  constructor
  · intro hrefused
    by_contra hn
    rw [place_of_ne_zero low hn] at hrefused
    cases hrefused
  · rintro rfl
    exact place_zero low

end Place

section Decode
variable {N : Width} (b : Bus N)

/-- A bus of 16 wires is decoded to its signed value (R172). -/
theorem decodeBus_of_width_eq (h : N.n = 16) : decodeBus b = .ok b.sval := by
  obtain rfl : N = width16 := by
    cases N
    cases h
    rfl
  rw [decodeBus, (connectBus_eq_ok_iff width16 b.wires b).mpr rfl, ← bus16ToInt_eq_sval]

/-- A bus of another width is no bus of the codec (R181). -/
theorem decodeBus_of_width_ne (h : N.n ≠ 16) : decodeBus b = .error .widthMismatch := by
  have hlen : b.wires.length ≠ width16.n := by rwa [b.width_eq]
  rw [decodeBus, connectBus_of_length_ne hlen]

end Decode

/-- Settles O57: each of the three boundary operations is decided by comparing one width (`connectBus_of_length_eq`,
`connectBus_of_length_ne`, `place_eq_refused_iff`). -/
theorem widthMismatchIsRefusedWhereBusesAreBuilt : Obligations.WidthMismatchIsRefusedWhereBusesAreBuilt := by
  refine ⟨fun s port wires => ?_, fun n low => ?_, fun N b => ?_⟩
  · exact ⟨s.driveWires_of_length_eq port, s.driveWires_of_length_ne port⟩
  · exact ⟨place_eq_refused_iff low, fun hn => ⟨_, place_of_ne_zero low hn, rfl, rfl⟩⟩
  · exact ⟨fun h => ⟨b.sval, decodeBus_of_width_eq b h, rfl⟩, decodeBus_of_width_ne b⟩

end Sys2Proof.Machine

namespace Sys2Proof.Machine

/-! PROOFS. The NAND counts of the netlists (spec/70_reset_and_hazards.md R195): each netlist adds the counts of the
netlists that it is composed of (`Net.nands_bind`), and over a bus the count is the same at every wire. -/

section GateCounts
variable (a b sel inp : Signal)

@[simp] theorem nandNet_nands : (nandNet a b).nands = 1 := rfl
@[simp] theorem notNet_nands : (notNet a).nands = 1 := rfl
@[simp] theorem andNet_nands : (andNet a b).nands = 3 := rfl
@[simp] theorem orNet_nands : (orNet a b).nands = 3 := rfl
@[simp] theorem xorNet_nands : (xorNet a b).nands = 5 := rfl
@[simp] theorem muxNet_nands : (muxNet a b sel).nands = 4 := rfl
@[simp] theorem dmuxNet_nands : (dmuxNet inp sel).nands = 7 := rfl

end GateCounts

section DmuxCounts
variable (sel1Low : Bool) (inp sel1 sel2 sel3 t1 t2 t3 : Signal)

@[simp] theorem dmux4LegNet_nands : (dmux4LegNet inp t1 t2).nands = 6 := rfl
@[simp] theorem dmux8LegNet_nands : (dmux8LegNet inp t1 t2 t3).nands = 9 := rfl

/-- Two inverters and four legs. -/
theorem dmux4WayNet_nands : (dmux4WayNet sel1Low inp sel1 sel2).nands = 26 := by simp [dmux4WayNet]

/-- Three inverters and eight legs. -/
theorem dmux8WayNet_nands : (dmux8WayNet sel1Low inp sel1 sel2 sel3).nands = 75 := by simp [dmux8WayNet]

end DmuxCounts

section AdderCounts
variable (a b carryIn : Signal)

@[simp] theorem halfAdderNet_nands : (halfAdderNet a b).nands = 8 := by simp [halfAdderNet]

/-- Two half adders and the OR of their carries (D7). -/
@[simp] theorem fullAdderNet_nands : (fullAdderNet a b carryIn).nands = 19 := by simp [fullAdderNet]

/-- One full adder for each pair of operand wires. -/
@[simp] theorem rippleNet_nands (cN : Signal) (pairs : List (Signal × Signal)) :
    (rippleNet cN pairs).nands = 19 * pairs.length := by
  induction pairs with
  | nil => rfl
  | cons p rest ih =>
    simp [rippleNet, ih]
    ring

end AdderCounts

section WireCounts
variable (u v : List Signal) (sel z : Signal)

@[simp] theorem notNNet_nands : (notNNet u).nands = u.length := by
  rw [notNNet, mapNet_nands notNet 1 notNet_nands, Nat.mul_one]

@[simp] theorem andNNet_nands : (andNNet u v).nands = 3 * min u.length v.length := by
  rw [andNNet, zipNet_nands andNet 3 andNet_nands, Nat.mul_comm]

@[simp] theorem orNNet_nands : (orNNet u v).nands = 3 * min u.length v.length := by
  rw [orNNet, zipNet_nands orNet 3 orNet_nands, Nat.mul_comm]

@[simp] theorem muxNNet_nands : (muxNNet u v sel).nands = 4 * min u.length v.length := by
  rw [muxNNet, zipNet_nands _ 4 fun a b => muxNet_nands a b sel, Nat.mul_comm]

@[simp] theorem orMWayNet_nands : (orMWayNet u).nands = 3 * u.length := by
  rw [orMWayNet, Net.nands_tie, foldNet_nands orNet 3 orNet_nands, Nat.mul_comm]

@[simp] theorem andMWayNet_nands : (andMWayNet u).nands = 3 * u.length := by
  rw [andMWayNet, Net.nands_tie, foldNet_nands andNet 3 andNet_nands, Nat.mul_comm]

@[simp] theorem nAdderNet_nands : (nAdderNet u v).nands = 19 * min u.length v.length := by
  simp [nAdderNet]

@[simp] theorem nIncrementerNet_nands : (nIncrementerNet u).nands = 19 * u.length := by
  simp [nIncrementerNet]

@[simp] theorem zeroStageNet_nands : (zeroStageNet u z).nands = 4 * u.length := by
  simp [zeroStageNet]

/-- A complement and a multiplexer at each wire. -/
@[simp] theorem negateStageNet_nands : (negateStageNet u z).nands = 5 * u.length := by
  simp [negateStageNet]
  omega

@[simp] theorem zeroFlagNet_nands : (zeroFlagNet u).nands = 3 * u.length + 1 := by
  simp [zeroFlagNet]

end WireCounts

section BusCounts
variable {N : Width} (a b c d e f g h : Bus N) (sel1 sel2 sel3 : Signal)

@[simp] theorem mux4WayNNet_length :
    (mux4WayNNet a.wires b.wires c.wires d.wires sel1 sel2).run.length = N.n :=
  (mux4WayN a b c d sel1 sel2).width_eq

/-- Three multiplexers at each index (R57). -/
@[simp] theorem mux4WayNNet_nands :
    (mux4WayNNet a.wires b.wires c.wires d.wires sel1 sel2).nands = 12 * N.n := by
  simp [mux4WayNNet, Bus.width_eq]
  omega

/-- A 4-way selector for each half and one multiplexer between them at each index (R58). -/
theorem mux8WayNNet_nands :
    (mux8WayNNet a.wires b.wires c.wires d.wires e.wires f.wires g.wires h.wires sel1 sel2 sel3).nands =
      28 * N.n := by
  simp [mux8WayNNet]
  omega

end BusCounts

/-- The stages of both operands, `and_n`, `n_adder` and `mux_n`, the negate stage of the result and its zero flag
(R76 to R81): `2 * (4 + 5) + 3 + 19 + 4 + 5 + 3` at each index, and the inverter of the flag. -/
theorem aluNet_nands {N : Width} (x y : Bus N) (zx nx zy ny f no : Signal) :
    (aluNet x.wires y.wires zx nx zy ny f no).nands = 52 * N.n + 1 := by
  simp [aluNet, Bus.width_eq]
  omega

/-- Settles O58: a cell is its netlist evaluated, by definition; the netlists' counts are those of their parts
(`dmux8WayNet_nands`, `rippleNet_nands`, `aluNet_nands` and their like). -/
theorem nandCountsOfTheTable : Obligations.NandCountsOfTheTable := by
  refine ⟨fun a b c => ?gates, fun low inp sel1 sel2 sel3 => ?dmuxes,
    fun N a b c d e f g h sel1 sel2 sel3 => ?buses, fun N x y zx nx zy ny f no => ?alu⟩
  case gates =>
    exact ⟨⟨rfl, nandNet_nands a b⟩, ⟨rfl, notNet_nands a⟩, ⟨rfl, andNet_nands a b⟩, ⟨rfl, orNet_nands a b⟩,
      ⟨rfl, xorNet_nands a b⟩, ⟨rfl, muxNet_nands a b c⟩, ⟨rfl, dmuxNet_nands a b⟩, ⟨rfl, halfAdderNet_nands a b⟩,
      rfl, fullAdderNet_nands a b c⟩
  case dmuxes =>
    exact ⟨⟨rfl, dmux4WayNet_nands low inp sel1 sel2⟩, rfl, dmux8WayNet_nands low inp sel1 sel2 sel3⟩
  case buses =>
    refine ⟨⟨rfl, ?_⟩, ⟨rfl, ?_⟩, ⟨rfl, ?_⟩, ⟨rfl, ?_⟩, ⟨rfl, ?_⟩, ⟨rfl, ?_⟩, ⟨rfl, mux4WayNNet_nands ..⟩,
      ⟨rfl, mux8WayNNet_nands ..⟩, ⟨rfl, ?_⟩, rfl, ?_⟩
    all_goals simp [Bus.width_eq]
  case alu =>
    exact ⟨rfl, aluNet_nands x y zx nx zy ny f no, rfl, rfl⟩

end Sys2Proof.Machine

namespace Sys2Proof.Machine

/-! PROOFS. Routing with `dmux_4_way` and selecting back with `mux_4_way_n` (spec/95_test_vectors.md P5): the selector
picks the output line of its own index, which carries the input where both indices agree. -/

section RouteBack
variable (N : Width) (sel1Low : Bool) (inp sel1 sel2 : Signal)

/-- The four output lines of `dmux_4_way`, each as a bus, selected by `mux_4_way_n` under the same selectors (P5). -/
def routeBack : Bus N :=
  let r := dmux4Way sel1Low inp sel1 sel2
  mux4WayN (Bus.fill N r.o0) (Bus.fill N r.o1) (Bus.fill N r.o2) (Bus.fill N r.o3) sel1 sel2

/-- Selecting among four lines, each spread over a bus, spreads the line of the index (R57). -/
theorem mux4WayN_fill (r : Dmux4Out) :
    mux4WayN (Bus.fill N r.o0) (Bus.fill N r.o1) (Bus.fill N r.o2) (Bus.fill N r.o3) sel1 sel2 =
      Bus.fill N (r.toList.getD (index4 sel1 sel2) r.o0) :=
  (mux4WayN_eq_getD ..).trans (List.getD_map (l := r.toList) r.o0 (Bus.fill N))

/-- What is selected back is the input exactly where the two cells read the selectors as the same index. -/
theorem routeBack_eq_fill : routeBack N sel1Low inp sel1 sel2 =
    Bus.fill N (if index4 sel1 sel2 = dmuxIndex4 sel1Low sel1 sel2 then inp else .low) := by
  rw [routeBack, mux4WayN_fill, List.getD_eq_getElem?_getD,
    dmux4Way_toList_getElem? _ _ _ _ (index4_lt sel1 sel2), Option.getD_some]

/-- Under the default reading both cells have the same index (R57, R59). -/
theorem routeBack_of_sel1Low : routeBack N true inp sel1 sel2 = Bus.fill N inp :=
  (routeBack_eq_fill N true inp sel1 sel2).trans (congrArg (Bus.fill N) (if_pos rfl))

/-- Under the other reading the selectors `High`, `Low` are index 1 to the one cell and 2 to the other (D5). -/
theorem routeBack_high_high_low : routeBack N false .high .high .low = Bus.allLow N :=
  routeBack_eq_fill N false .high .high .low

end RouteBack

/-- Settles O32: under the default reading `routeBack_of_sel1Low` gives the input back; under the other one
`routeBack_high_high_low` loses a `High` input. -/
theorem routeAndSelectBack : Obligations.RouteAndSelectBack := by
  refine ⟨routeBack_of_sel1Low _, .high, .high, .low, fun hback => ?_⟩
  have hlost := routeBack_high_high_low ⟨1, by decide⟩
  exact absurd (hlost.symm.trans hback) (by decide)

end Sys2Proof.Machine

namespace Sys2Proof.Machine

/-! PROOFS. Sample control words by their signals and by their numbers (spec/30_encoding.md R30, R33). -/

/-- Settles O1: the encodings of these rows are the words written out (`decode_encode`), and the words' numbers select
the same rows (`decodeTableWord_numberOfSignals`). -/
theorem controlWordSamplesDecode : Obligations.ControlWordSamplesDecode :=
  ⟨decode_encode .alu000010, decode_encode .alu110111, decode_encode .alu111111, decode_encode .alu010011,
    decode_encode .alu001111,
    decodeTableWord_numberOfSignals .low .low .low .low .high .low,
    decodeTableWord_numberOfSignals .high .high .low .high .high .high,
    decodeTableWord_numberOfSignals .high .high .high .high .high .high,
    decodeTableWord_numberOfSignals .low .high .low .low .high .high,
    decodeTableWord_numberOfSignals .low .low .high .high .high .high, decode_encode .nand⟩

end Sys2Proof.Machine
